-- ==== Sys2Proof/Word.lean ====
section
/-! DEFINITION. The byte of frames and of the configuration record, and the four-fold container for things the
station has one of per bin position. -/

namespace Sys2Proof

/-- One byte of a frame or of the configuration record (chapter 12). -/
abbrev Byte := BitVec 8

/-- The four bin positions; bin b faces ejector b (R96, R117). -/
inductive BinNo where
  | bin1 | bin2 | bin3 | bin4
  deriving DecidableEq, Repr

/-- One thing for each of the four bin positions. -/
structure Quad (α : Type) where
  b1 : α
  b2 : α
  b3 : α
  b4 : α
  deriving DecidableEq, Repr

/-- The same thing at all four positions. -/
def Quad.all {α : Type} (x : α) : Quad α := ⟨x, x, x, x⟩

/-- The thing at position `b`. -/
def Quad.get {α : Type} (q : Quad α) (b : BinNo) : α :=
  match b with
  | .bin1 => q.b1
  | .bin2 => q.b2
  | .bin3 => q.b3
  | .bin4 => q.b4

/-- The same, with `x` at position `b`. -/
def Quad.set {α : Type} (q : Quad α) (b : BinNo) (x : α) : Quad α :=
  match b with
  | .bin1 => { q with b1 := x }
  | .bin2 => { q with b2 := x }
  | .bin3 => { q with b3 := x }
  | .bin4 => { q with b4 := x }

/-- `f` applied at every position. -/
def Quad.map {α β : Type} (f : α → β) (q : Quad α) : Quad β := ⟨f q.b1, f q.b2, f q.b3, f q.b4⟩

/-- The four positions in order of bin number. -/
def allBins : List BinNo := [.bin1, .bin2, .bin3, .bin4]

/-- The bin number 1 to 4. -/
def BinNo.number (b : BinNo) : Nat :=
  match b with
  | .bin1 => 1
  | .bin2 => 2
  | .bin3 => 3
  | .bin4 => 4

end Sys2Proof
end

