-- ==== Sys2Proof/Syntax.lean ====
section
/-! DEFINITION. The commands of the block: one constructor of Instr for each row of spec/opcode_table.json, with what
the event brings to the station. The table gives its rows no operands; what each carries is log 1. -/

namespace Sys2Proof

/-- What one curtain receiver reports (section 2.1). -/
inductive BeamLevel where
  | clear | dim | blocked
  deriving DecidableEq, Repr

/-- The four classes of a received cell (R138). -/
inductive CellClass where
  | one | zero | violation | empty
  deriving DecidableEq, Repr

/-- The two sensors of a bin position (section 6.2). -/
inductive BinSensor where
  | present | full
  deriving DecidableEq, Repr

/-- The three line errors the row LINE_ERROR gathers (R139, R142). -/
inductive LineErrorKind where
  | loneViolation | violationInByte | strayEmpty
  deriving DecidableEq, Repr

/-- The two causes of the entry to LOSS (R140). -/
inductive LossCause where
  | thirdViolation | silence
  deriving DecidableEq, Repr

/-- The pieces of work that receiving blocks do at a step event (R4): the Gate Unit's sample, the Ejection Unit's fires
and verifies, the Tracking Unit's expiry, flush and exit line. -/
inductive StepPart where
  | gate | fire | verify | track
  deriving DecidableEq, Repr

/-- The sensor events of which R104 says that they may come together with a reservation request, and be taken before it. -/
inductive BinEvent where
  | removal (b : BinNo)
  | fullSensorRise (b : BinNo)
  deriving DecidableEq, Repr

/-- What the blocks sample at a step event (R23, R86, R127); the order in which the receiving blocks take the event, which R4
leaves open (log 4); and for each reservation request in turn the sensor events taken between the tests of its decision and
the request (R101, R104, R122; log 28). A verify or exit level is true while the beam is BLOCKED. -/
structure Samples where
  curtain : List BeamLevel
  verify : Quad Bool
  exitBlocked : Bool
  order : List StepPart
  between : List (List BinEvent)
  deriving DecidableEq, Repr

/-- What comes together with the close of a coil window: a step event that opens a detection (R36, log 22), and the sensor
events of log 28 for the reservation requests of its hand-overs (R31, R104). -/
structure WindowClose where
  opening : Bool
  between : List (List BinEvent)
  deriving DecidableEq, Repr

/-- The commands. `dt` is the time in nanoseconds since the command before (log 1). -/
inductive Instr where
  | powerOnReset (dt : Nat)
  | externalReset (dt : Nat)
  | start (dt : Nat) (straps : BitVec 4)
  | attemptFailure (dt : Nat)
  | configReadRetry (dt : Nat)
  | configReadComplete (dt : Nat) (memory : List Byte) (armHome : Quad Bool)
  | rawPulse (dt : Nat) (smp : Samples)
  | slatMark (dt : Nat) (smp : Samples)
  | seamReport (dt : Nat)
  | encoderWatchdogExpiry (dt : Nat)
  | fallbackStep (dt : Nat) (smp : Samples)
  | beltRunChange (dt : Nat) (on : Bool)
  | coilWindowClose (dt : Nat) (close : WindowClose)
  | foreignAttentionPulseEnd (dt : Nat)
  | pulseTimerExpiry (dt : Nat) (b : BinNo)
  | recoveryTimerExpiry (dt : Nat) (b : BinNo) (home : Bool)
  | binSensorChange (dt : Nat) (b : BinNo) (sensor : BinSensor) (level : Bool)
  | insertion (dt : Nat) (b : BinNo)
  | removal (dt : Nat) (b : BinNo)
  | fullSensorRise (dt : Nat) (b : BinNo)
  | fullSensorFall (dt : Nat) (b : BinNo)
  | binstatePeriodTimer (dt : Nat)
  | openMark (dt : Nat)
  | abortMark (dt : Nat)
  | lineError (dt : Nat) (kind : LineErrorKind)
  | frameTooLong (dt : Nat)
  | closeMark (dt : Nat)
  | lossEntry (dt : Nat) (cause : LossCause)
  | lossReturn (dt : Nat)
  | recallTimerExpiry (dt : Nat)
  | transmitterFree (dt : Nat)
  | frameSent (dt : Nat)
  | joiningRollRetry (dt : Nat)
  | joinTimeout (dt : Nat)
  | lossTimerExpiry (dt : Nat) (withIdleCell : Bool)
  | severedRejoin (dt : Nat)
  | peerSilenceTimeout (dt : Nat) (address : Nat)
  | statusPeriodTimer (dt : Nat)
  | serviceKeyChange (dt : Nat) (turned : Bool)
  | serviceKeyPress (dt : Nat)
  | safetyChainOpening (dt : Nat)
  | safetyChainClosing (dt : Nat)
  | safeExit (dt : Nat)
  | oscillatorEdge (dt : Nat)
  | cellReceived (dt : Nat) (cell : CellClass)
  | keySettledRelease (dt : Nat)
  | abortMarkSent (dt : Nat)
  deriving DecidableEq, Repr

end Sys2Proof
end

