-- ==== Sys2Proof/Decode.lean ====
section
/-! DEFINITION. The table gives no row any bits, so no word spells a command (log 6). -/

namespace Sys2Proof

/-- The command that `w`, of `nbits` bits, spells by the table's bits: the table gives none to any row. -/
def decodeTableWord (_nbits _w : Nat) : Option Instr := none

end Sys2Proof
end

