-- ==== Sys2Proof/Machine/Bytes.lean ====
section
/-! DEFINITION. Byte order, bit fields and the loop's CRC (R144, chapter 12). -/

namespace Sys2Proof.Machine

/-- The low eight bits of `n`. -/
def byteOf (n : Nat) : Byte := BitVec.ofNat 8 n

/-- A field of two bytes, low byte first (chapter 12). -/
def wordBytes (n : Nat) : List Byte := [byteOf n, byteOf (n / 256)]

/-- Byte `i` as a number; 0 beyond the end. -/
def byteAt (bs : List Byte) (i : Nat) : Nat := (bs.getD i 0).toNat

/-- The two-byte field at byte `i`, low byte first. -/
def wordAt (bs : List Byte) (i : Nat) : Nat := byteAt bs i + 256 * byteAt bs (i + 1)

/-- The three-byte field at byte `i`, low byte first (log 17). -/
def tripleAt (bs : List Byte) (i : Nat) : Nat := wordAt bs i + 65536 * byteAt bs (i + 2)

/-- `width` bits of `n` from bit `lo`. -/
def bitField (n lo width : Nat) : Nat := n / 2 ^ lo % 2 ^ width

/-- A flag as the bit at `i`. -/
def flagBit (b : Bool) (i : Nat) : Nat := if b then 2 ^ i else 0

/-- R144: one bit into the CRC register. -/
def crcBit (r : BitVec 16) (b : Bool) : BitVec 16 :=
  if r.getLsbD 0 = b then r >>> 1 else (r >>> 1) ^^^ 0x8408#16

/-- R144: one byte, low bit first. -/
def crcByte (r : BitVec 16) (x : Byte) : BitVec 16 :=
  [0, 1, 2, 3, 4, 5, 6, 7].foldl (fun acc i => crcBit acc (x.getLsbD i)) r

/-- R144: the CRC of the covered bytes, preset to all ones. -/
def crc16 (bs : List Byte) : BitVec 16 := bs.foldl crcByte 0xFFFF#16

end Sys2Proof.Machine
end

