-- ==== Sys2Proof/Config.lean ====
section
/-! DEFINITION. What the part fixes: codes, lengths and list sizes the spec states as numbers, and the free values. -/

namespace Sys2Proof.Config

/-- Section 1.2: the codes carried in ROLL. -/
def familyCode : Nat := 0x31
def modelCode : Nat := 0x16
def revisionCode : Nat := 0x02

/-- R154: the frame kinds. -/
def kindRoll : Nat := 0x11
def kindTicket : Nat := 0x22
def kindBinstate : Nat := 0x33
def kindStatus : Nat := 0x44

/-- R154: the hop budget of a frame this station builds. -/
def hopBudget : Nat := 32

/-- Section 4.2.1: the horizon, in steps. -/
def horizon : Nat := 2048

/-- The sizes of the lists and queues: R55, R77, R123, section 2.4, R162. -/
def expectMax : Nat := 32
def transitMax : Nat := 48
def scheduleMax : Nat := 8
def completingMax : Nat := 4
def transitQueueMax : Nat := 6
def ownQueueMax : Nat := 8

/-- R142: the frame buffer. -/
def bufferMax : Nat := 67

/-- R187: where a counter holds. -/
def counterMax : Nat := 65535

/-- R13: where the slot period holds, in microseconds. -/
def periodMax : Nat := 67108863

/-- Timer lengths in milliseconds: R97, R91, R111, R150, R148, R170, R168, R116, R176, R182, R185, R188. -/
def presentSettleMs : Nat := 100
def fullSettleMs : Nat := 300
def foreignPulseMs : Nat := 2000
def binstateMs : Nat := 500
def lossMs : Nat := 50
def joinMs : Nat := 200
def recallMs : Nat := 1000
def silenceMs : Nat := 3000
def freshMs : Nat := 2000
def retryMs : Nat := 10
def keySettleMs : Nat := 50
def chainSettleMs : Nat := 200
def statusMs : Nat := 5000

/-- R138: one cell is 500 ns. R140: LOSS comes at 8 cell times of silence. R145: the gap is 16 cells. -/
def cellNs : Nat := 500
def silenceCells : Nat := 8
def gapCells : Nat := 16

/-- FREE VALUE (log 8). R13 divides 64 000 000 by the slot period and states no speed for a period of 0 us: this is the
boundary speed then. -/
opaque zeroPeriodSpeed : Nat

/-- FREE VALUE (log 27). Whether the trim sum stands at a seam slip, as R12 says, or restarts at empty, as R18 says. -/
opaque seamSlipKeepsTrim : Bool

end Sys2Proof.Config
end

