-- ==== Sys2Proof/Machine/State.lean ====
section
/-! DEFINITION. The state of the station as plain data, block by block, and its value right after reset. -/

namespace Sys2Proof.Machine

/-- No command of this block stops the machine: the spec names no such event, so there is no fault. -/
inductive Fault where
  deriving DecidableEq, Repr

/-- Why a command is not run. -/
inductive Refusal where
  /-- Raised by exec for a command that has no meaning yet; safe: the model stops where the hardware goes on. -/
  | notModelled (mnemonic : String)
  deriving DecidableEq, Repr

/-- A timer: the time left in nanoseconds, or stopped (log 2). It has run out when the time left is 0. -/
abbrev Timer := Option Nat

/-! ### Position Unit (chapter 1) -/

/-- R20: the position condition. -/
inductive Condition where
  | unsynced | normal | fallback | freeRun
  deriving DecidableEq, Repr

/-- R1: a divider pair N, M. -/
structure DividerPair where
  n : Nat
  m : Nat
  deriving DecidableEq, Repr

structure PositionUnit where
  /-- R1: the raw pulse accumulator. -/
  acc : Nat
  /-- R1: the slot pulse count. -/
  slotPulses : Nat
  /-- R2: the current and the pending pair. -/
  cur : DividerPair
  pend : Option DividerPair
  /-- Section 1.2: slot count, step-in-slot, overrun steps. -/
  slot : Nat
  step : Nat
  overrun : Nat
  cond : Condition
  seamFlag : Bool
  slipFlag : Bool
  /-- R7, R9: consecutive missed-mark and good-mark counts. -/
  missed : Nat
  good : Nat
  /-- R13: time since the last boundary (ns), and the slot period (us). -/
  sinceBoundary : Option Nat
  period : Option Nat
  /-- R18: the trim accumulator, and whether the slot in progress was opened by a boundary that counts for it. -/
  trimSum : Nat
  trimCount : Nat
  trimOpen : Bool
  /-- R8: the last boundary was synthesised. -/
  synthesised : Bool
  /-- R16: steps the encoder completed in the qualification slot, when one is open; a raw pulse came in FALLBACK. -/
  qual : Option Nat
  pulseSeen : Bool
  /-- R14, R15. -/
  watchdog : Timer
  stepTimer : Timer
  deriving DecidableEq, Repr

/-- R22. The pair is 0, 0 until the entry to RUN takes one (log 7). -/
def PositionUnit.reset : PositionUnit :=
  { acc := 0, slotPulses := 0, cur := ⟨0, 0⟩, pend := none, slot := 0, step := 0, overrun := 0, cond := .unsynced,
    seamFlag := false, slipFlag := false, missed := 0, good := 0, sinceBoundary := none, period := none, trimSum := 0,
    trimCount := 0, trimOpen := false, synthesised := false, qual := none, pulseSeen := false, watchdog := none,
    stepTimer := none }

/-! ### Gate Unit (chapter 2) -/

/-- R24, R25: one beam: its mask (which is its beam-fault flag), stuck run and clear run. -/
structure Beam where
  masked : Bool
  stuck : Nat
  clear : Nat
  deriving DecidableEq, Repr

inductive GateState where
  | idle | opened | waitClear | held
  deriving DecidableEq, Repr

/-- Section 2.3: the open detection record. -/
structure OpenRecord where
  lead : Nat
  clearStart : Option Nat
  height : Nat
  notClear : Nat
  dim : Nat
  metal : Option Nat
  deriving DecidableEq, Repr

/-- R31: a closed detection. -/
structure Detection where
  lead : Nat
  trailing : Nat
  length : Nat
  overlong : Bool
  height : Nat
  dim : Nat
  metal : Option Nat
  deriving DecidableEq, Repr

structure GateUnit where
  beams : List Beam
  state : GateState
  detection : Option OpenRecord
  completing : List Detection
  windowCount : Nat
  /-- R36: the gate state has been IDLE since the window opened. -/
  windowClear : Bool
  windowTimer : Timer
  baseline : Option Nat
  baseSum : Nat
  tally : Nat
  lowRun : Nat
  goodRun : Nat
  coilFault : Bool
  overRange : Bool
  deriving DecidableEq, Repr

/-- R40. -/
def GateUnit.reset : GateUnit :=
  { beams := List.replicate 12 ⟨false, 0, 0⟩, state := .held, detection := none, completing := [], windowCount := 0,
    windowClear := false, windowTimer := none, baseline := none, baseSum := 0, tally := 0, lowRun := 0, goodRun := 0,
    coilFault := false, overRange := false }

/-! ### Classifier (chapter 3) -/

/-- R42: one rule of the class table; a metal range of ANY is `none`. -/
structure ClassRule where
  cls : Nat
  lenLo : Nat
  lenHi : Nat
  heightLo : Nat
  heightHi : Nat
  dimLo : Nat
  dimHi : Nat
  metal : Option (Nat × Nat)
  deriving DecidableEq, Repr

structure ClassifierUnit where
  table : List ClassRule
  digest : Option (BitVec 16)
  deriving DecidableEq, Repr

/-- R51. -/
def ClassifierUnit.reset : ClassifierUnit := ⟨[], none⟩

/-! ### Tracking Unit (chapters 4 and 5) -/

/-- R118: the pass reasons. -/
inductive PassReason where
  | noBin | full | busy | deferred | noSort | degraded | service | safety | slow | binRemoved | missed
  deriving DecidableEq, Repr

/-- R52: a ticket's identity. -/
structure TicketId where
  origin : Nat
  serial : Nat
  deriving DecidableEq, Repr

/-- R52: a ticket as Expect and Transit entries keep it (readdressed apart). -/
structure Ticket where
  id : TicketId
  lead : Nat
  length : Nat
  overlong : Bool
  cls : Nat
  height : Nat
  dim : Nat
  metal : Option Nat
  passes : Nat
  lastReason : Option PassReason
  missed : Nat
  merged : List TicketId
  deriving DecidableEq, Repr

/-- R55. -/
structure ExpectEntry where
  ticket : Ticket
  trust : Bool
  arrival : BitVec 32
  deriving DecidableEq, Repr

/-- R77: a transit entry's state, with the fields that go with it. -/
inductive EntryState where
  | pass (reason : PassReason)
  | scheduled (b : BinNo) (firePos : Nat)
  | fired (b : BinNo) (firePos : Nat) (detached : Bool)
  deriving DecidableEq, Repr

/-- R77. -/
structure TransitEntry where
  ticket : Ticket
  ref : Nat
  state : EntryState
  localStray : Bool
  exitBlocked : Bool
  exitDone : Bool
  deriving DecidableEq, Repr

structure TrackingUnit where
  expect : List ExpectEntry
  link : List Nat
  serial : Nat
  transit : List TransitEntry
  refCount : Nat
  foreignPulse : Timer
  deriving DecidableEq, Repr

/-- R76, R95, with the serial that retention memory gives. -/
def TrackingUnit.reset (serial : Nat) : TrackingUnit :=
  { expect := [], link := [], serial := serial, transit := [], refCount := 0, foreignPulse := none }

/-! ### Bin Unit (chapter 6) -/

inductive BinState where
  | absent | opened | near | full | held
  deriving DecidableEq, Repr

/-- R96, less the fields of the configuration image. -/
structure BinRecord where
  state : BinState
  fill : Nat
  pending : Nat
  unverified : Bool
  faultShown : Bool
  deriving DecidableEq, Repr

/-- R97: a sensor's settled level and settle timer. -/
structure Sensor where
  settled : Bool
  timer : Timer
  deriving DecidableEq, Repr

/-- R106: the mark of a snapshot slot. -/
inductive VisitMark where
  | kept | replaced | fresh
  deriving DecidableEq, Repr

structure SnapshotSlot where
  saved : BinState
  mark : VisitMark
  deriving DecidableEq, Repr

/-- The modes of section 10.1. -/
inductive Mode where
  | start | halted | run | service | safe
  deriving DecidableEq, Repr

/-- R114. -/
structure BoardEntry where
  peer : Nat
  bin : Nat
  cls : Nat
  state : BinState
  fill : Nat
  pending : Nat
  capacity : Nat
  unverified : Bool
  fault : Bool
  modeRun : Bool
  tracking : Bool
  degraded : Bool
  refresh : BitVec 32
  deriving DecidableEq, Repr

structure BinUnit where
  recs : Quad BinRecord
  present : Quad Sensor
  full : Quad Sensor
  snapshot : Option (Quad SnapshotSlot)
  periodTimer : Timer
  /-- R111: a BINSTATE has been asked for in the event in progress (log 5); clear between events. -/
  asked : Bool
  /-- The model's own: the sensor events that the command in progress brings between the tests of a decision and its
  reservation request, the first list for the next request (R104, log 28); empty between commands. -/
  between : List (List BinEvent)
  board : List BoardEntry
  deriving DecidableEq, Repr

/-- R110. -/
def BinUnit.reset : BinUnit :=
  { recs := Quad.all ⟨.absent, 0, 0, false, false⟩, present := Quad.all ⟨false, none⟩, full := Quad.all ⟨false, none⟩,
    snapshot := none, periodTimer := none, asked := false, between := [], board := [] }

/-! ### Ejection Unit (chapter 7) -/

inductive EjectorState where
  | ready | pulsing | recovering | fault
  deriving DecidableEq, Repr

/-- R123: a scheduled item. -/
structure SchedItem where
  ref : Nat
  firePos : Nat
  deriving DecidableEq, Repr

/-- R127: an item of a verify watch. `fresh`: fired at the step event in progress, whose sample is not applied to it.
`overdue`: its verify end was covered by the fire event, so the next step event's sample decides it (log 18). -/
structure WatchItem where
  ref : Nat
  start : Nat
  length : Nat
  blocked : Bool
  detached : Bool
  fresh : Bool
  overdue : Bool
  deriving DecidableEq, Repr

/-- R117, less the fields of the configuration image. The shadow is also the output (R126). -/
structure Ejector where
  state : EjectorState
  shadow : Bool
  misses : Nat
  pulse : Timer
  recovery : Timer
  schedule : List SchedItem
  watch : List WatchItem
  deriving DecidableEq, Repr

/-- R137. -/
def Ejector.reset : Ejector :=
  { state := .ready, shadow := false, misses := 0, pulse := none, recovery := none, schedule := [], watch := [] }

/-! ### Loop Port (chapter 8) -/

/-- Section 8.3. -/
inductive RxState where
  | loss | idle | frame
  deriving DecidableEq, Repr

/-- Section 8.8. -/
inductive LinkState where
  | bypassed | joining | joined | severed
  deriving DecidableEq, Repr

/-- Section 8.6: the transmitter; silent while the relay is closed. `sending` holds the bytes going out: header, payload and
CRC. `aborting` holds the cells that still went out when the frame was cut: the rest of the byte begun, and the abort mark
(R146). The cell going out at a moment follows from the time left (LoopPort.loopOut). -/
inductive TxState where
  | silent | gap | free
  | sending (bytes : List Byte)
  | aborting (cells : List CellClass)
  deriving DecidableEq, Repr

structure LoopPort where
  rx : RxState
  idleRun : Nat
  violationRun : Nat
  /-- R138: silence time in ns, held at 8 cell times. -/
  silence : Nat
  /-- R142: the whole bytes gathered, and the bits of the byte in progress, low bit first. -/
  buffer : List Byte
  bits : List Bool
  lossTimer : Timer
  joinTimer : Timer
  link : LinkState
  relayDrive : Bool
  tx : TxState
  txTimer : Timer
  deriving DecidableEq, Repr

/-- R153. -/
def LoopPort.reset : LoopPort :=
  { rx := .loss, idleRun := 0, violationRun := 0, silence := 0, buffer := [], bits := [], lossTimer := none,
    joinTimer := none, link := .bypassed, relayDrive := false, tx := .silent, txTimer := none }

/-! ### Loop Traffic Unit (chapter 9) -/

/-- R154: a frame without its CRC; the payload length is the payload's own. -/
structure Frame where
  kind : Nat
  dest : Nat
  origin : Nat
  hop : Nat
  payload : List Byte
  deriving DecidableEq, Repr

/-- R166. -/
structure PeerEntry where
  address : Nat
  gateDist : Nat
  digest : BitVec 16
  digestEqual : Bool
  tracking : Bool
  lastHeard : BitVec 32
  deriving DecidableEq, Repr

structure LoopTraffic where
  transitQueue : List Frame
  ownQueue : List Frame
  fairness : Nat
  peers : List PeerEntry
  joinRetry : Nat
  recallTimer : Timer
  deriving DecidableEq, Repr

/-- R172. -/
def LoopTraffic.reset : LoopTraffic :=
  { transitQueue := [], ownQueue := [], fairness := 0, peers := [], joinRetry := 0, recallTimer := none }

/-! ### Mode Controller (chapters 10 and 11) -/

/-- R173 to R176: where START stands. -/
inductive StartPhase where
  | inReset | reading | waiting | ended
  deriving DecidableEq, Repr

/-- R190, R180: what the station lamp shows. -/
inductive LampPattern where
  | off | steady | interrupted | oneHz | fourHz
  | code (n : Nat)
  deriving DecidableEq, Repr

structure ModeController where
  mode : Mode
  phase : StartPhase
  failures : Nat
  retryTimer : Timer
  heldMode : Option Mode
  image : List Byte
  address : Nat
  haltCode : Nat
  /-- R182: settled level of the key (true: turned), and its settle timer. -/
  keyTurned : Bool
  keyTimer : Timer
  /-- R184: settled level of the chain (true: closed), and the closing wait. -/
  chainClosed : Bool
  chainTimer : Timer
  /-- Chapter 10: the station clock, ms; the ns gathered toward its next ms; whether it runs. -/
  clock : BitVec 32
  clockPart : Nat
  clockRunning : Bool
  statusTimer : Timer
  /-- R190: the lamp's pattern and the time within it; R113: the phase of the flashing bin lamps (log 21). -/
  lamp : LampPattern
  lampTime : Nat
  flashPhase : Nat
  deriving DecidableEq, Repr

/-- R173, and log 7 for the fields R173 does not name. The bin lamps' phase is not touched by a reset. -/
def ModeController.reset (flashPhase : Nat) : ModeController :=
  { mode := .start, phase := .inReset, failures := 0, retryTimer := none, heldMode := none, image := [], address := 0,
    haltCode := 0, keyTurned := false, keyTimer := none, chainClosed := true, chainTimer := none, clock := 0,
    clockPart := 0, clockRunning := false, statusTimer := none, lamp := .off, lampTime := 0, flashPhase := flashPhase }

/-! ### Configuration, retention, pins, counters -/

/-- Section 12.4: one bin position of the configuration record. -/
structure BinSettings where
  configured : Bool
  fullFitted : Bool
  homeFitted : Bool
  cls : Nat
  capacity : Nat
  near : Nat
  pulseMs : Nat
  recoveryMs : Nat
  spacing : Nat
  line : Nat
  verify : Nat
  deriving DecidableEq, Repr

/-- Section 12.4: the fields of the configuration image, the class table apart. -/
structure Settings where
  slots : Nat
  nominal : DividerPair
  guard : Nat
  encoderMs : Nat
  gapBridge : Nat
  lMax : Nat
  windowMs : Nat
  coilFloor : Nat
  matchW : Nat
  exitX : Nat
  gateDist : Nat
  minSpeed : Nat
  hysteresis : Nat
  /-- Bytes 23 and 24: bit c - 1 set means class c is EVEN. -/
  balance : BitVec 16
  bins : Quad BinSettings
  deriving DecidableEq, Repr

/-- No image read: every field 0 (log 7). -/
def Settings.blank : Settings :=
  { slots := 0, nominal := ⟨0, 0⟩, guard := 0, encoderMs := 0, gapBridge := 0, lMax := 0, windowMs := 0, coilFloor := 0,
    matchW := 0, exitX := 0, gateDist := 0, minSpeed := 0, hysteresis := 0, balance := 0,
    bins := Quad.all ⟨false, false, false, 0, 0, 0, 0, 0, 0, 0, 0⟩ }

/-- R109. -/
structure BinRetention where
  fill : Nat
  unverified : Bool
  cls : Nat
  deriving DecidableEq, Repr

/-- R174. -/
structure Retention where
  pair : DividerPair
  nominal : DividerPair
  serial : Nat
  bins : Quad BinRetention
  deriving DecidableEq, Repr

/-- R174: the cleared values. -/
def Retention.cleared : Retention :=
  { pair := ⟨0, 0⟩, nominal := ⟨0, 0⟩, serial := 0, bins := Quad.all ⟨0, false, 0⟩ }

/-- Section 12.6: the input levels as last reported. -/
structure Pins where
  beltRun : Bool
  chainClosed : Bool
  keyTurned : Bool
  binPresent : Quad Bool
  binFull : Quad Bool
  armHome : Quad Bool
  curtain : List BeamLevel
  verifyBlocked : Quad Bool
  exitBlocked : Bool
  straps : BitVec 4
  deriving DecidableEq, Repr

/-- The levels the model starts from (log 3): the chain closed, the arms home, the beams clear, the rest inactive. -/
def Pins.initial : Pins :=
  { beltRun := false, chainClosed := true, keyTurned := false, binPresent := Quad.all false, binFull := Quad.all false,
    armHome := Quad.all true, curtain := List.replicate 12 .clear, verifyBlocked := Quad.all false, exitBlocked := false,
    straps := 0 }

/-- The sixteen counters of section 11.1 and the cut count (R133), each 16 bits. -/
structure Counters where
  strays : Nat
  matched : Nat
  merges : Nat
  lost : Nat
  lateDropped : Nat
  adopted : Nat
  untracked : Nat
  ejected : Nat
  missed : Nat
  passedToPeer : Nat
  toEndCatch : Nat
  vanished : Nat
  flushed : Nat
  lineDrops : Nat
  queueDrops : Nat
  pitchSlips : Nat
  cuts : Nat
  deriving DecidableEq, Repr

/-- R187. -/
def Counters.reset : Counters := ⟨0, 0, 0, 0, 0, 0, 0, 0, 0, 0, 0, 0, 0, 0, 0, 0, 0⟩

end Sys2Proof.Machine

namespace Sys2Proof.Machine

/-- The station. `pending` is the model's queue of commands waiting, first in, first out. -/
structure State where
  cfg : Settings
  retention : Retention
  pos : PositionUnit
  gate : GateUnit
  classifier : ClassifierUnit
  trk : TrackingUnit
  bins : BinUnit
  ej : Quad Ejector
  port : LoopPort
  ltu : LoopTraffic
  ctl : ModeController
  pins : Pins
  counters : Counters
  pending : List Instr
  deriving DecidableEq, Repr

/-- R173: every block at its values after a reset that leaves retention memory at `r`. What the model keeps outside the
station (input levels, the bin lamps' phase, the queue) is as it was. -/
def State.afterReset (s : State) (r : Retention) : State :=
  { cfg := Settings.blank, retention := r, pos := PositionUnit.reset, gate := GateUnit.reset,
    classifier := ClassifierUnit.reset, trk := TrackingUnit.reset r.serial, bins := BinUnit.reset,
    ej := Quad.all Ejector.reset, port := LoopPort.reset, ltu := LoopTraffic.reset,
    ctl := ModeController.reset s.ctl.flashPhase, pins := s.pins, counters := Counters.reset, pending := s.pending }

/-- The station right after power-on reset (R173, R174), before START begins, with no command waiting. -/
def State.reset : State :=
  { cfg := Settings.blank, retention := Retention.cleared, pos := PositionUnit.reset, gate := GateUnit.reset,
    classifier := ClassifierUnit.reset, trk := TrackingUnit.reset 0, bins := BinUnit.reset,
    ej := Quad.all Ejector.reset, port := LoopPort.reset, ltu := LoopTraffic.reset, ctl := ModeController.reset 0,
    pins := Pins.initial, counters := Counters.reset, pending := [] }

end Sys2Proof.Machine
end

