-- ==== Sys2Proof/Machine/Ops.lean ====
section
/-! DEFINITION. The named operations every block uses: replacing a block's state, counters, timers and the passing of
time, and the arithmetic of belt positions. -/

namespace Sys2Proof.Machine

/-! ### Replacing one block -/

/-- `s` with its cfg replaced. -/
def State.setCfg (s : State) (x : Settings) : State := { s with cfg := x }

/-- `s` with its retention replaced. -/
def State.setRetention (s : State) (x : Retention) : State := { s with retention := x }

/-- `s` with its pos replaced. -/
def State.setPos (s : State) (x : PositionUnit) : State := { s with pos := x }

/-- `s` with its gate replaced. -/
def State.setGate (s : State) (x : GateUnit) : State := { s with gate := x }

/-- `s` with its classifier replaced. -/
def State.setClassifier (s : State) (x : ClassifierUnit) : State := { s with classifier := x }

/-- `s` with its trk replaced. -/
def State.setTrk (s : State) (x : TrackingUnit) : State := { s with trk := x }

/-- `s` with its bins replaced. -/
def State.setBins (s : State) (x : BinUnit) : State := { s with bins := x }

/-- `s` with its ej replaced. -/
def State.setEj (s : State) (x : Quad Ejector) : State := { s with ej := x }

/-- `s` with its port replaced. -/
def State.setPort (s : State) (x : LoopPort) : State := { s with port := x }

/-- `s` with its ltu replaced. -/
def State.setLtu (s : State) (x : LoopTraffic) : State := { s with ltu := x }

/-- `s` with its ctl replaced. -/
def State.setCtl (s : State) (x : ModeController) : State := { s with ctl := x }

/-- `s` with its pins replaced. -/
def State.setPins (s : State) (x : Pins) : State := { s with pins := x }

/-- `s` with its counters replaced. -/
def State.setCounters (s : State) (x : Counters) : State := { s with counters := x }

/-- `s` with its pending replaced. -/
def State.setPending (s : State) (x : List Instr) : State := { s with pending := x }

/-! ### Counters (R187) -/

/-- One counted event: a 16-bit counter rises by one and holds at 65535 (R187). -/
def bump16 (n : Nat) : Nat := if n < Config.counterMax then n + 1 else n

/-- The names of the sixteen counters and the cut count. -/
inductive Counter where
  | strays | matched | merges | lost | lateDropped | adopted | untracked | ejected | missed
  | passedToPeer | toEndCatch | vanished | flushed | lineDrops | queueDrops | pitchSlips | cuts
  deriving DecidableEq, Repr

/-- The counters after one event of `k`. -/
def Counters.bump (c : Counters) (k : Counter) : Counters :=
  match k with
  | .strays => { c with strays := bump16 c.strays }
  | .matched => { c with matched := bump16 c.matched }
  | .merges => { c with merges := bump16 c.merges }
  | .lost => { c with lost := bump16 c.lost }
  | .lateDropped => { c with lateDropped := bump16 c.lateDropped }
  | .adopted => { c with adopted := bump16 c.adopted }
  | .untracked => { c with untracked := bump16 c.untracked }
  | .ejected => { c with ejected := bump16 c.ejected }
  | .missed => { c with missed := bump16 c.missed }
  | .passedToPeer => { c with passedToPeer := bump16 c.passedToPeer }
  | .toEndCatch => { c with toEndCatch := bump16 c.toEndCatch }
  | .vanished => { c with vanished := bump16 c.vanished }
  | .flushed => { c with flushed := bump16 c.flushed }
  | .lineDrops => { c with lineDrops := bump16 c.lineDrops }
  | .queueDrops => { c with queueDrops := bump16 c.queueDrops }
  | .pitchSlips => { c with pitchSlips := bump16 c.pitchSlips }
  | .cuts => { c with cuts := bump16 c.cuts }

/-- The value of counter `k`. -/
def Counters.get (c : Counters) (k : Counter) : Nat :=
  match k with
  | .strays => c.strays
  | .matched => c.matched
  | .merges => c.merges
  | .lost => c.lost
  | .lateDropped => c.lateDropped
  | .adopted => c.adopted
  | .untracked => c.untracked
  | .ejected => c.ejected
  | .missed => c.missed
  | .passedToPeer => c.passedToPeer
  | .toEndCatch => c.toEndCatch
  | .vanished => c.vanished
  | .flushed => c.flushed
  | .lineDrops => c.lineDrops
  | .queueDrops => c.queueDrops
  | .pitchSlips => c.pitchSlips
  | .cuts => c.cuts

/-- One event of counter `k`. -/
def State.count (s : State) (k : Counter) : State := s.setCounters (s.counters.bump k)

/-- `n` events of counter `k`. -/
def State.countMany (s : State) (k : Counter) : Nat → State
  | 0 => s
  | n + 1 => (s.count k).countMany k n

/-! ### Timers and time (log 2) -/

/-- A timer of `ms` milliseconds, just started. -/
def Timer.start (ms : Nat) : Timer := some (ms * 1000000)

/-- The timer has run out. -/
def Timer.due (t : Timer) : Bool := t == some 0

/-- The timer after `dt` ns. -/
def Timer.elapse (dt : Nat) (t : Timer) : Timer := t.map (· - dt)

/-- The modes in which the station runs (section 10.1). -/
def Mode.running (m : Mode) : Bool :=
  match m with
  | .run => true
  | .service => true
  | .safe => true
  | .start => false
  | .halted => false

/-- The station is in RUN, SERVICE or SAFE. -/
def State.running (s : State) : Bool := s.ctl.mode.running

/-- R173: the reset has ended, so the receiver listens (section 8.9). -/
def State.listening (s : State) : Bool := s.ctl.phase != .inReset

/-- R190, R180: how long a lamp pattern takes to repeat, in ns. -/
def LampPattern.cycle (l : LampPattern) : Nat :=
  match l with
  | .off => 1
  | .steady => 1
  | .interrupted => 1000 * 1000000
  | .oneHz => 1000 * 1000000
  | .fourHz => 250 * 1000000
  | .code n => (n * 600 + 2000) * 1000000

/-- R13 to R15: the watchdog and the FALLBACK interval run only while the belt-run line is on. -/
def PositionUnit.elapse (p : PositionUnit) (beltRun : Bool) (dt : Nat) : PositionUnit :=
  { p with
    sinceBoundary := p.sinceBoundary.map (fun t => min (t + dt) (Config.periodMax * 1000 + 999))
    watchdog := if beltRun then Timer.elapse dt p.watchdog else p.watchdog
    stepTimer := if beltRun then Timer.elapse dt p.stepTimer else p.stepTimer }

def Sensor.elapse (dt : Nat) (x : Sensor) : Sensor := { x with timer := Timer.elapse dt x.timer }

def BinUnit.elapse (u : BinUnit) (dt : Nat) : BinUnit :=
  { u with
    present := u.present.map (Sensor.elapse dt)
    full := u.full.map (Sensor.elapse dt)
    periodTimer := Timer.elapse dt u.periodTimer }

def Ejector.elapse (dt : Nat) (e : Ejector) : Ejector :=
  { e with pulse := Timer.elapse dt e.pulse, recovery := Timer.elapse dt e.recovery }

def LoopPort.elapse (p : LoopPort) (dt : Nat) : LoopPort :=
  { p with
    silence := min (p.silence + dt) (Config.silenceCells * Config.cellNs)
    lossTimer := Timer.elapse dt p.lossTimer
    joinTimer := Timer.elapse dt p.joinTimer
    txTimer := Timer.elapse dt p.txTimer }

/-- Chapter 10: the station clock counts whole milliseconds in 32 bits while it runs. -/
def ModeController.elapse (m : ModeController) (dt : Nat) : ModeController :=
  { m with
    retryTimer := Timer.elapse dt m.retryTimer
    keyTimer := Timer.elapse dt m.keyTimer
    chainTimer := Timer.elapse dt m.chainTimer
    statusTimer := Timer.elapse dt m.statusTimer
    clock := if m.clockRunning then m.clock + BitVec.ofNat 32 ((m.clockPart + dt) / 1000000) else m.clock
    clockPart := if m.clockRunning then (m.clockPart + dt) % 1000000 else m.clockPart
    lampTime := (m.lampTime + dt) % m.lamp.cycle
    flashPhase := (m.flashPhase + dt) % 1000000000 }

/-- The station after `dt` ns in which nothing else happens. The Position Unit and the Gate Unit are held outside the
running modes (R21, R39), and a station held in reset keeps its values (R173). -/
def State.elapse (s : State) (dt : Nat) : State :=
  { s with
    pos := if s.running then s.pos.elapse s.pins.beltRun dt else s.pos
    gate := if s.running then { s.gate with windowTimer := Timer.elapse dt s.gate.windowTimer } else s.gate
    trk := { s.trk with foreignPulse := Timer.elapse dt s.trk.foreignPulse }
    bins := s.bins.elapse dt
    ej := s.ej.map (Ejector.elapse dt)
    port := if s.listening then s.port.elapse dt else s.port
    ltu := { s.ltu with recallTimer := Timer.elapse dt s.ltu.recallTimer }
    ctl := s.ctl.elapse dt }

/-- Chapter 10: the time in ms from `t` to now, modulo 2^32. -/
def State.since (s : State) (t : BitVec 32) : Nat := (s.ctl.clock - t).toNat

/-! ### Belt positions (sections 3.1, 3.2, R4, R5) -/

/-- P, the number of positions of the belt. -/
def Settings.span (c : Settings) : Nat := 64 * c.slots

/-- Section 1.2: the gate position. -/
def PositionUnit.gatePos (p : PositionUnit) : Nat := 64 * p.slot + p.step

/-- (a - b) mod P. -/
def posSub (span a b : Nat) : Nat := (a + (span - b % span)) % span

/-- R5: (a - b) mod P taken into the range -P/2 + 1 to P/2. -/
def signedDiff (span a b : Nat) : Int :=
  let v := posSub span a b
  if v ≤ span / 2 then (v : Int) else (v : Int) - (span : Int)

/-- R5: the signed distance of position `q` from the gate. -/
def State.dist (s : State) (q : Nat) : Int := signedDiff s.cfg.span q s.pos.gatePos

/-- Position `q` lies among the `n` positions that begin at `first`, modulo P. -/
def inExtent (span first n q : Nat) : Bool := decide (posSub span q first < n)

/-- R4: a step event. `adv` is absent where it carries a discontinuity mark. -/
structure StepEvent where
  pos : Nat
  adv : Option Nat
  seamSlip : Bool
  deriving DecidableEq, Repr

/-- R4: the event covers `q` when (q - old gate position) mod P lies between 1 and the advance; a discontinuity covers
no position. -/
def StepEvent.covers (ev : StepEvent) (span q : Nat) : Bool :=
  match ev.adv with
  | none => false
  | some a => decide (1 ≤ posSub span q (posSub span ev.pos a) ∧ posSub span q (posSub span ev.pos a) ≤ a)

/-- The extent of `n` positions that begins at `first` contains a position the event covers: its first position is
covered, or the first position the event covers lies in it. -/
def StepEvent.touches (ev : StepEvent) (span first n : Nat) : Bool :=
  match ev.adv with
  | none => false
  | some a => n != 0 && (ev.covers span first || (a != 0 && inExtent span first n (posSub span ev.pos a + 1)))

end Sys2Proof.Machine
end

