-- ==== Sys2Proof/Machine/Operands.lean ====
section
/-! DEFINITION. How a command's operands reach the state: the input levels it brings are put on the pins, and the blocks
read the pins (log 3). -/

namespace Sys2Proof.Machine

/-- The levels a step event samples are on the pins (R23, R86, R127). -/
def Pins.sample (p : Pins) (smp : Samples) : Pins :=
  { p with curtain := smp.curtain, verifyBlocked := smp.verify, exitBlocked := smp.exitBlocked }

def State.sample (s : State) (smp : Samples) : State := s.setPins (s.pins.sample smp)

/-- The arm-home feedback of ejector `b` reads `home` (R125). -/
def State.senseHome (s : State) (b : BinNo) (home : Bool) : State :=
  s.setPins { s.pins with armHome := s.pins.armHome.set b home }

/-- The level of a bin sensor on its pin (R97). -/
def Pins.binSensor (p : Pins) (b : BinNo) (sensor : BinSensor) : Bool :=
  match sensor with
  | .present => p.binPresent.get b
  | .full => p.binFull.get b

/-- A bin sensor's pin at a new level (R97). -/
def Pins.setBinSensor (p : Pins) (b : BinNo) (sensor : BinSensor) (level : Bool) : Pins :=
  match sensor with
  | .present => { p with binPresent := p.binPresent.set b level }
  | .full => { p with binFull := p.binFull.set b level }

/-- The bin positions that the image configures, in order of bin number (R96). -/
def Settings.configuredBins (c : Settings) : List BinNo := allBins.filter (fun b => (c.bins.get b).configured)

/-- The settings of bin `b`. -/
def State.binCfg (s : State) (b : BinNo) : BinSettings := s.cfg.bins.get b

/-- The bin of number `n`, if `n` lies in 1 to 4. -/
def binOfNumber (n : Nat) : Option BinNo := allBins.find? (fun b => b.number == n)

end Sys2Proof.Machine
end

