-- ==== Sys2Proof/Machine/Flags.lean ====
section
/-! DEFINITION. What the station computes from its state: flags, levels, the speed, and the outputs that are levels. -/

namespace Sys2Proof.Machine

/-- Section 1.10: the tracking flag of a position condition. -/
def Condition.tracking (c : Condition) : Bool := c != .unsynced

/-- Section 1.10, R112: the degraded flag. -/
def Condition.degraded (c : Condition) : Bool := c == .fallback || c == .freeRun

/-- R13: 64 000 000 divided by the slot period; the period of 0 us is the free value (log 8). -/
def boundarySpeed (period : Nat) : Nat := if period = 0 then Config.zeroPeriodSpeed else 64000000 / period

/-- R13: the speed the unit gives its readers. In the first microsecond after a boundary the boundary speed stands alone
(log 8). DESIGN CHOICE, unsafe (log 42): the time since the last boundary is rounded down to whole microseconds. -/
def PositionUnit.speed (p : PositionUnit) : Nat :=
  match p.period, p.sinceBoundary with
  | some t, some since =>
    if since / 1000 = 0 then boundarySpeed t else min (boundarySpeed t) (64000000 / (since / 1000))
  | _, _ => 0

/-- Section 6.1: floor(16 x count / capacity). -/
def sixteenths (count capacity : Nat) : Nat := 16 * count / capacity

/-- Section 6.1: the level of a bin, from what is committed to it. -/
def State.binLevel (s : State) (b : BinNo) : Nat :=
  sixteenths ((s.bins.recs.get b).fill + (s.bins.recs.get b).pending) (s.binCfg b).capacity

/-- R97: the full sensor of bin `b` is fitted and its settled level is active. -/
def State.fullActive (s : State) (b : BinNo) : Bool := (s.binCfg b).fullFitted && (s.bins.full.get b).settled

/-- R99, R108: OPEN or NEAR by the fill level. -/
def stateByFill (c : BinSettings) (fill : Nat) : BinState := if c.near ≤ sixteenths fill c.capacity then .near else .opened

/-- R108, kept case: FULL by count or sensor, else by the fill level. -/
def stateFound (c : BinSettings) (fill : Nat) (fullActive : Bool) : BinState :=
  if fill = c.capacity ∨ fullActive = true then .full else stateByFill c fill

/-- A bin that takes reservations (section 6.3). -/
def BinState.takes (x : BinState) : Bool := x == .opened || x == .near

/-- R180, R190, R173: what the station lamp shows. -/
def State.lampPattern (s : State) : LampPattern :=
  match s.ctl.mode with
  | .start => if s.listening then .steady else .off
  | .halted => .code s.ctl.haltCode
  | .run => if s.port.link = .joined ∧ s.pos.cond = .normal then .steady else .interrupted
  | .service => .oneHz
  | .safe => .fourHz

/-- R190, R180: whether a lamp pattern is lit at time `t` within it; each flash begins with its on phase. -/
def LampPattern.lit (l : LampPattern) (t : Nat) : Bool :=
  match l with
  | .off => false
  | .steady => true
  | .interrupted => decide (t < 750 * 1000000)
  | .oneHz => decide (t < 500 * 1000000)
  | .fourHz => decide (t < 125 * 1000000)
  | .code n => decide (t < n * 600 * 1000000) && decide (t % (600 * 1000000) < 300 * 1000000)

/-- The station lamp output. -/
def State.stationLamp (s : State) : Bool := s.ctl.lamp.lit s.ctl.lampTime

/-- R113: the lamp of bin position `b`. -/
def State.binLamp (s : State) (b : BinNo) : Bool :=
  let r := s.bins.recs.get b
  let fast := decide (s.ctl.flashPhase % (250 * 1000000) < 125 * 1000000)
  let slow := decide (s.ctl.flashPhase < 500 * 1000000)
  if (s.binCfg b).configured && s.running then
    if r.state = .held then !s.stationLamp
    else if r.faultShown then fast
    else match r.state with
      | .full => fast
      | .near => slow
      | .opened => true
      | .absent => false
      | .held => false
  else false

/-- R191: the attention output. -/
def State.attention (s : State) : Bool :=
  s.ctl.mode == .halted ||
  s.running && (s.trk.foreignPulse.isSome ||
    s.cfg.configuredBins.any (fun b => (s.bins.recs.get b).state == .full || (s.bins.recs.get b).faultShown))

/-- R126: the output of ejector `b` is its shadow. -/
def State.ejectorOutput (s : State) (b : BinNo) : Bool := (s.ej.get b).shadow

/-- R55: the age of the Expect entry with the earliest arrival time, held at 65535. -/
def State.expectAge (s : State) : Nat :=
  min 65535 (s.trk.expect.foldl (fun a e => max a (s.since e.arrival)) 0)

/-- R116: a Fill Board entry is fresh for 2000 ms. -/
def State.fresh (s : State) (e : BoardEntry) : Bool := decide (s.since e.refresh < Config.freshMs)

/-- The peer table's entry for an address (R166). -/
def State.peer (s : State) (address : Nat) : Option PeerEntry := s.ltu.peers.find? (fun p => p.address == address)

/-- R169: the first entry after the own entry whose tracking flag is set. -/
def State.nextPeer (s : State) : Option PeerEntry :=
  ((s.ltu.peers.dropWhile (fun p => p.address != s.ctl.address)).drop 1).find? (fun p => p.tracking)

end Sys2Proof.Machine
end

