-- ==== Sys2Proof/Machine/ConfigRecord.lean ====
section
/-! DEFINITION. The configuration record: its fields, and the checks of START (R43, R177, R178, R193, section 12.4). -/

namespace Sys2Proof.Machine

/-- Where bin position `b`'s 14 bytes begin. -/
def binBase (b : BinNo) : Nat := 25 + 14 * (b.number - 1)

/-- Section 12.4: one bin position. The fields of a position that is not configured are taken from the image unchecked, and
nothing reads them: DESIGN CHOICE (log 40), safe. -/
def binSettingsAt (bs : List Byte) (b : BinNo) : BinSettings :=
  let i := binBase b
  { configured := (byteAt bs i).testBit 0, fullFitted := (byteAt bs i).testBit 1, homeFitted := (byteAt bs i).testBit 2,
    cls := byteAt bs (i + 1), capacity := wordAt bs (i + 2), near := byteAt bs (i + 4), pulseMs := byteAt bs (i + 5),
    recoveryMs := wordAt bs (i + 6), spacing := wordAt bs (i + 8), line := wordAt bs (i + 10),
    verify := wordAt bs (i + 12) }

/-- Section 12.4: the fields of the record, the class table apart. -/
def settingsOf (bs : List Byte) : Settings :=
  { slots := wordAt bs 2, nominal := ⟨byteAt bs 4, byteAt bs 5⟩, guard := byteAt bs 6, encoderMs := wordAt bs 7,
    gapBridge := byteAt bs 9, lMax := wordAt bs 10, windowMs := byteAt bs 12, coilFloor := wordAt bs 13,
    matchW := byteAt bs 15, exitX := wordAt bs 16, gateDist := wordAt bs 18, minSpeed := wordAt bs 20,
    hysteresis := byteAt bs 22, balance := BitVec.ofNat 16 (wordAt bs 23),
    bins := ⟨binSettingsAt bs .bin1, binSettingsAt bs .bin2, binSettingsAt bs .bin3, binSettingsAt bs .bin4⟩ }

/-- Byte 81: the rule count. -/
def ruleCount (bs : List Byte) : Nat := byteAt bs 81

/-- Section 12.4: rule `k`, counted from 0. -/
def ruleAt (bs : List Byte) (k : Nat) : ClassRule :=
  let i := 82 + 10 * k
  { cls := bitField (byteAt bs i) 0 4, lenLo := bitField (tripleAt bs (i + 4)) 0 12,
    lenHi := bitField (tripleAt bs (i + 4)) 12 12, heightLo := bitField (byteAt bs (i + 1)) 0 4,
    heightHi := bitField (byteAt bs (i + 1)) 4 4, dimLo := byteAt bs (i + 2), dimHi := byteAt bs (i + 3),
    metal := if (byteAt bs i).testBit 7 then none
      else some (bitField (tripleAt bs (i + 7)) 0 12, bitField (tripleAt bs (i + 7)) 12 12) }

def rulesOf (bs : List Byte) : List ClassRule := (List.range (ruleCount bs)).map (ruleAt bs)

/-- R49, R193: the digest covers byte 81 and the rules it counts. -/
def digestOf (bs : List Byte) : BitVec 16 := crc16 ((bs.drop 81).take (1 + 10 * ruleCount bs))

/-! ### The checks (R177) -/

/-- R177 check 2: the sum of every byte, modulo 256, is 0. -/
def checksumOk (bs : List Byte) : Bool := bs.foldl (fun a b => a + b) (0#8) == 0#8

def within (lo hi n : Nat) : Bool := decide (lo ≤ n ∧ n ≤ hi)

/-- R177: the ranges of one configured bin position and its ejector. -/
def BinSettings.inRange (c : BinSettings) : Bool :=
  within 1 12 c.cls && within 1 1000 c.capacity && within 8 15 c.near && within 10 250 c.pulseMs &&
    within 10 500 c.recoveryMs && within 8 512 c.spacing && within 1 1024 c.line && within 1 1024 c.verify

/-- R177: the ranges of the station-wide fields. -/
def Settings.inRange (c : Settings) : Bool :=
  within 128 1024 c.slots && within 1 255 c.nominal.n && within 0 63 c.nominal.m && within 2 16 c.guard &&
    within 20 500 c.encoderMs && within 1 8 c.gapBridge && within 32 1023 c.lMax &&
    (c.windowMs == 1 || c.windowMs == 2 || c.windowMs == 4) && within 0 65535 c.coilFloor && within 2 32 c.matchW &&
    within 1 1024 c.exitX && within 0 1023 c.gateDist && within 32 8192 c.minSpeed && within 0 4 c.hysteresis &&
    allBins.all (fun b => !(c.bins.get b).configured || (c.bins.get b).inRange)

/-- R43: one rule's class and ranges. -/
def ClassRule.inRange (r : ClassRule) : Bool :=
  within 1 13 r.cls && within 1 1023 r.lenLo && within 1 1023 r.lenHi && within 1 12 r.heightLo && within 1 12 r.heightHi &&
    within 0 16 r.dimLo && within 0 16 r.dimHi && decide (r.lenLo ≤ r.lenHi) && decide (r.heightLo ≤ r.heightHi) &&
    decide (r.dimLo ≤ r.dimHi) &&
    (match r.metal with
     | none => true
     | some (lo, hi) => within 0 4095 lo && within 0 4095 hi && decide (lo ≤ hi))

/-- R193: no unused bit of the record is set, and an ANY rule's metal bounds are 0. The dim share bounds' unused bits
fail their range as well. -/
def unusedClear (bs : List Byte) : Bool :=
  byteAt bs 1 == 0 && bitField (wordAt bs 23) 12 4 == 0 &&
    allBins.all (fun b => !(byteAt bs (binBase b)).testBit 0 || bitField (byteAt bs (binBase b)) 3 5 == 0) &&
    (List.range (ruleCount bs)).all (fun k =>
      bitField (byteAt bs (82 + 10 * k)) 4 3 == 0 &&
        (!(byteAt bs (82 + 10 * k)).testBit 7 || tripleAt bs (82 + 10 * k + 7) == 0))

/-- R193: the record holds the fixed part and the rules it counts. -/
def lengthOk (bs : List Byte) : Bool :=
  decide (83 ≤ bs.length ∧ ruleCount bs ≤ 16 ∧ 83 + 10 * ruleCount bs ≤ bs.length)

/-- R177 check 3. -/
def rangesOk (bs : List Byte) : Bool :=
  lengthOk bs && (settingsOf bs).inRange && unusedClear bs && (rulesOf bs).all ClassRule.inRange

/-- R178: the sequence of lines, the exit distance last. -/
def Settings.lineSequence (c : Settings) : List Nat :=
  c.configuredBins.flatMap (fun b => [(c.bins.get b).line, (c.bins.get b).verify]) ++ [c.exitX]

/-- The sequence rises strictly along its whole length. -/
def rises : List Nat → Bool
  | a :: b :: rest => decide (a < b) && rises (b :: rest)
  | _ => true

/-- R177 check 4, R178. -/
def Settings.lineOrderOk (c : Settings) : Bool :=
  rises c.lineSequence && c.configuredBins.all (fun b => decide (c.lMax / 2 + 8 ≤ (c.bins.get b).line))

/-- R177 check 5, R43: every configured bin's class is the class of a rule. -/
def binClassesOk (c : Settings) (rules : List ClassRule) : Bool :=
  c.configuredBins.all (fun b => rules.any (fun r => r.cls == (c.bins.get b).cls))

/-- R177: the code of the first check a complete image fails, in the order of the table; absent when all pass. -/
def checkImage (bs : List Byte) : Option Nat :=
  if !checksumOk bs then some 2
  else if !rangesOk bs then some 3
  else if !(settingsOf bs).lineOrderOk then some 4
  else if !binClassesOk (settingsOf bs) (rulesOf bs) then some 5
  else none

end Sys2Proof.Machine
end

