-- ==== Sys2Proof/Machine/Classify.lean ====
section
/-! DEFINITION. The Classifier's answer (chapter 3). -/

namespace Sys2Proof.Machine

/-- R44: a classification request. The basis is the matched entry's class as received and its trust flag. -/
structure ClassRequest where
  length : Nat
  height : Nat
  dim : Nat
  metal : Option Nat
  overlong : Bool
  forced : Bool
  basis : Option (Nat × Bool)
  deriving DecidableEq, Repr

/-- R46: the metal range. -/
def metalHolds (range : Option (Nat × Nat)) (metal : Option Nat) : Bool :=
  match range, metal with
  | none, _ => true
  | some (lo, hi), some m => decide (lo ≤ m ∧ m ≤ hi)
  | some _, none => false

/-- R46: a rule matches when all four of its ranges hold. -/
def ClassRule.matches (r : ClassRule) (q : ClassRequest) : Bool :=
  decide (r.lenLo ≤ q.length ∧ q.length ≤ r.lenHi) && decide (r.heightLo ≤ q.height ∧ q.height ≤ r.heightHi) &&
    decide (r.dimLo ≤ q.dim ∧ q.dim ≤ r.dimHi) && metalHolds r.metal q.metal

/-- R48: the trusted class, where the test passes; else UNKNOWN. -/
def trustedClass (basis : Option (Nat × Bool)) : Nat :=
  match basis with
  | some (c, true) => c
  | some (_, false) => 0
  | none => 0

/-- R45: the class code of a request under a class table. With no rule in the table R42 calls every item UNKNOWN, where step 4
of R45 can give a trusted class: DESIGN CHOICE, R45 is followed (log 33), unsafe. -/
def classify (table : List ClassRule) (q : ClassRequest) : Nat :=
  if q.forced then 0
  else if q.overlong then 0
  else match table.find? (fun r => r.matches q) with
    | some r => r.cls
    | none => trustedClass q.basis

end Sys2Proof.Machine
end

