-- ==== Sys2Proof/Machine/Frames.lean ====
section
/-! DEFINITION. The loop frames byte by byte: codes, payload layouts both ways, and building this station's frames
(chapter 12, R192). -/

namespace Sys2Proof.Machine

/-! ### Shared codes (section 12.1) -/

/-- Mode code: 0 RUN, 1 SERVICE, 2 SAFE. A station in START or HALTED sends nothing (section 10.7). -/
def Mode.code (m : Mode) : Nat :=
  match m with
  | .run => 0
  | .service => 1
  | .safe => 2
  | .start => 0
  | .halted => 0

def BinState.code (x : BinState) : Nat :=
  match x with
  | .absent => 0
  | .opened => 1
  | .near => 2
  | .full => 3
  | .held => 4

def binStateOfCode (n : Nat) : Option BinState :=
  match n with
  | 0 => some .absent
  | 1 => some .opened
  | 2 => some .near
  | 3 => some .full
  | 4 => some .held
  | _ => none

def PassReason.code (r : PassReason) : Nat :=
  match r with
  | .noBin => 1
  | .full => 2
  | .busy => 3
  | .deferred => 4
  | .noSort => 5
  | .degraded => 6
  | .service => 7
  | .safety => 8
  | .slow => 9
  | .binRemoved => 10
  | .missed => 11

/-- R192: 0 and 12 to 255 are taken as absent. -/
def reasonOfCode (n : Nat) : Option PassReason :=
  match n with
  | 1 => some .noBin
  | 2 => some .full
  | 3 => some .busy
  | 4 => some .deferred
  | 5 => some .noSort
  | 6 => some .degraded
  | 7 => some .service
  | 8 => some .safety
  | 9 => some .slow
  | 10 => some .binRemoved
  | 11 => some .missed
  | _ => none

def reasonCode (r : Option PassReason) : Nat := (r.map PassReason.code).getD 0

/-! ### Header (section 12.1) -/

/-- The payload lengths a kind allows; an unknown kind allows any (section 12.1). -/
def lengthAllowed (kind len : Nat) : Bool :=
  if kind = Config.kindRoll then len == 11
  else if kind = Config.kindTicket then [14, 17, 20, 23].contains len
  else if kind = Config.kindBinstate then [1, 9, 17, 25, 33].contains len
  else if kind = Config.kindStatus then len == 39
  else true

/-- Header and payload, in the order they are sent. -/
def Frame.bytes (f : Frame) : List Byte :=
  [byteOf f.kind, byteOf f.dest, byteOf f.origin, byteOf f.hop, byteOf f.payload.length] ++ f.payload

/-- R144, R145: header, payload and CRC, low byte first. -/
def Frame.lineBytes (f : Frame) : List Byte := f.bytes ++ wordBytes (crc16 f.bytes).toNat

/-- The frame held in a buffer that passed R143's checks, without its CRC. -/
def frameOfBytes (bs : List Byte) : Frame :=
  { kind := byteAt bs 0, dest := byteAt bs 1, origin := byteAt bs 2, hop := byteAt bs 3,
    payload := (bs.drop 5).dropLast.dropLast }

/-- R154: a frame this station builds. -/
def State.buildFrame (s : State) (kind dest : Nat) (payload : List Byte) : Frame :=
  { kind := kind, dest := dest, origin := s.ctl.address, hop := Config.hopBudget, payload := payload }

/-! ### TICKET (section 12.2) -/

def idBytes (i : TicketId) : List Byte := byteOf i.origin :: wordBytes i.serial

/-- A ticket id at byte `i`: origin, then bits 0 to 11 of the serial. -/
def idAt (bs : List Byte) (i : Nat) : TicketId := ⟨byteAt bs i, wordAt bs (i + 1) % 4096⟩

def encodeTicket (t : Ticket) (readdressed : Bool) : List Byte :=
  idBytes t.id ++ wordBytes t.lead ++ wordBytes t.length ++ [byteOf t.cls, byteOf t.height, byteOf t.dim] ++
    wordBytes (t.metal.getD 0xFFFF) ++
    [byteOf (t.passes + 16 * t.missed + flagBit t.overlong 6 + flagBit readdressed 7), byteOf (reasonCode t.lastReason)] ++
    t.merged.flatMap idBytes

/-- The fields of a TICKET payload. The number of merged ids follows from the length (section 12.2). -/
def decodeTicket (bs : List Byte) : Ticket :=
  { id := idAt bs 0, lead := wordAt bs 3, length := wordAt bs 5 % 1024,
    overlong := (byteAt bs 12).testBit 6, cls := byteAt bs 7, height := byteAt bs 8, dim := byteAt bs 9,
    metal := if wordAt bs 10 = 0xFFFF then none else some (wordAt bs 10),
    passes := bitField (byteAt bs 12) 0 4, lastReason := reasonOfCode (byteAt bs 13),
    missed := bitField (byteAt bs 12) 4 2,
    merged := (List.range ((bs.length - 14) / 3)).map (fun k => idAt bs (14 + 3 * k)) }

/-- The readdressed field of a TICKET payload. -/
def readdressed (bs : List Byte) : Bool := (byteAt bs 12).testBit 7

/-- R159: the payload as it came back, except that the readdressed field is set. -/
def setReaddressed (bs : List Byte) : List Byte := bs.set 12 (bs.getD 12 0 ||| 0x80#8)

/-! ### ROLL (section 12.2, R164) -/

/-- The fields of a ROLL payload that the station reads (R192: its mode field is not checked or kept). -/
structure RollContent where
  newFlag : Bool
  gateDist : Nat
  binCount : Nat
  family : Nat
  model : Nat
  revision : Nat
  digest : BitVec 16
  exitX : Nat
  deriving DecidableEq, Repr

def encodeRoll (r : RollContent) (mode : Mode) : List Byte :=
  [byteOf (flagBit r.newFlag 0 + 2 * mode.code)] ++ wordBytes r.gateDist ++
    [byteOf r.binCount, byteOf r.family, byteOf r.model, byteOf r.revision] ++ wordBytes r.digest.toNat ++ wordBytes r.exitX

def decodeRoll (bs : List Byte) : RollContent :=
  { newFlag := (byteAt bs 0).testBit 0, gateDist := wordAt bs 1, binCount := byteAt bs 3, family := byteAt bs 4,
    model := byteAt bs 5, revision := byteAt bs 6, digest := BitVec.ofNat 16 (wordAt bs 7), exitX := wordAt bs 9 }

/-- R164: this station's ROLL content, from the image and the digest. -/
def State.ownRoll (s : State) (newFlag : Bool) : RollContent :=
  { newFlag := newFlag, gateDist := s.cfg.gateDist, binCount := s.cfg.configuredBins.length, family := Config.familyCode,
    model := Config.modelCode, revision := Config.revisionCode, digest := s.classifier.digest.getD 0,
    exitX := s.cfg.exitX }

/-- R157: equal fixed content, the new flag and the mode left out. -/
def RollContent.sameFixed (a b : RollContent) : Bool := { a with newFlag := false } == { b with newFlag := false }

/-- R165: what a ROLL is checked for before the peer table takes it. -/
def RollContent.takeable (r : RollContent) : Bool :=
  r.family == Config.familyCode && r.model == Config.modelCode && decide (r.gateDist ≤ 1023) && decide (r.binCount ≤ 4) &&
    decide (1 ≤ r.exitX ∧ r.exitX ≤ 1024)

def State.rollFrame (s : State) (newFlag : Bool) : Frame :=
  s.buildFrame Config.kindRoll 0 (encodeRoll (s.ownRoll newFlag) s.ctl.mode)

/-! ### BINSTATE (section 12.2, R112) -/

/-- One bin report. -/
structure BinReport where
  bin : Nat
  cls : Nat
  state : Option BinState
  unverified : Bool
  fault : Bool
  fill : Nat
  pending : Nat
  capacity : Nat
  deriving DecidableEq, Repr

/-- The header of a BINSTATE; a mode of 3 is absent (R192). -/
structure BinstateHeader where
  mode : Option Mode
  tracking : Bool
  degraded : Bool
  deriving DecidableEq, Repr

def encodeReport (r : BinReport) : List Byte :=
  [byteOf r.bin, byteOf r.cls, byteOf ((r.state.map BinState.code).getD 0 + flagBit r.unverified 3 + flagBit r.fault 4)] ++
    wordBytes r.fill ++ [byteOf r.pending] ++ wordBytes r.capacity

def reportAt (bs : List Byte) (i : Nat) : BinReport :=
  { bin := byteAt bs i, cls := byteAt bs (i + 1), state := binStateOfCode (bitField (byteAt bs (i + 2)) 0 3),
    unverified := (byteAt bs (i + 2)).testBit 3, fault := (byteAt bs (i + 2)).testBit 4, fill := wordAt bs (i + 3),
    pending := byteAt bs (i + 5), capacity := wordAt bs (i + 6) }

def modeOfCode (n : Nat) : Option Mode :=
  match n with
  | 0 => some .run
  | 1 => some .service
  | 2 => some .safe
  | _ => none

def encodeHeader (mode : Mode) (c : Condition) : Byte := byteOf (mode.code + flagBit c.tracking 2 + flagBit c.degraded 3)

def decodeHeader (bs : List Byte) : BinstateHeader :=
  { mode := modeOfCode (bitField (byteAt bs 0) 0 2), tracking := (byteAt bs 0).testBit 2,
    degraded := (byteAt bs 0).testBit 3 }

def decodeReports (bs : List Byte) : List BinReport :=
  (List.range ((bs.length - 1) / 8)).map (fun k => reportAt bs (1 + 8 * k))

/-- R112: the report of bin `b`. -/
def State.binReport (s : State) (b : BinNo) : BinReport :=
  let r := s.bins.recs.get b
  { bin := b.number, cls := (s.binCfg b).cls, state := some r.state, unverified := r.unverified, fault := r.faultShown,
    fill := r.fill, pending := r.pending, capacity := (s.binCfg b).capacity }

/-- R112: the BINSTATE frame as the state stands. -/
def State.binstateFrame (s : State) : Frame :=
  s.buildFrame Config.kindBinstate 0
    (encodeHeader s.ctl.mode s.pos.cond :: (s.cfg.configuredBins.map s.binReport).flatMap encodeReport)

/-! ### STATUS (section 12.2, R189) -/

def Condition.code (c : Condition) : Nat :=
  match c with
  | .unsynced => 0
  | .normal => 1
  | .fallback => 2
  | .freeRun => 3

def LinkState.code (l : LinkState) : Nat :=
  match l with
  | .bypassed => 0
  | .joining => 1
  | .joined => 2
  | .severed => 3

/-- Beam 1's flag at bit 0. -/
def faultBits : List Beam → Nat
  | [] => 0
  | b :: rest => (if b.masked then 1 else 0) + 2 * faultBits rest

/-- Counters 1 to 16 in order. -/
def Counters.inOrder (c : Counters) : List Nat :=
  [c.strays, c.matched, c.merges, c.lost, c.lateDropped, c.adopted, c.untracked, c.ejected, c.missed, c.passedToPeer,
   c.toEndCatch, c.vanished, c.flushed, c.lineDrops, c.queueDrops, c.pitchSlips]

/-- R189: the STATUS frame as the state stands. -/
def State.statusFrame (s : State) : Frame :=
  s.buildFrame Config.kindStatus 0
    ([byteOf (s.ctl.mode.code + 4 * s.pos.cond.code + 16 * s.port.link.code + flagBit s.pos.slipFlag 6)] ++
      wordBytes (faultBits s.gate.beams + flagBit s.gate.coilFault 12 + flagBit s.gate.overRange 13) ++
      wordBytes s.expectAge ++ s.counters.inOrder.flatMap wordBytes ++ wordBytes s.counters.cuts)

end Sys2Proof.Machine
end

