-- ==== Sys2Proof/Machine/LineCells.lean ====
section
/-! DEFINITION. The line cell by cell: the four classes by their transitions, the marks, the cells of a frame, and what the
transmitter drives on loop-out (R138, R139, R145, R146). -/

namespace Sys2Proof

/-- R138: a cell of the class has a transition at its start. -/
def CellClass.startTransition (c : CellClass) : Bool :=
  match c with
  | .one => true
  | .zero => true
  | .violation => false
  | .empty => false

/-- R138: a cell of the class has a transition at its middle. -/
def CellClass.midTransition (c : CellClass) : Bool :=
  match c with
  | .one => true
  | .zero => false
  | .violation => true
  | .empty => false

/-- R138: the class the receiver gives a cell time by the transitions it sees in it. -/
def cellOfTransitions (start mid : Bool) : CellClass :=
  match start, mid with
  | true, true => .one
  | true, false => .zero
  | false, true => .violation
  | false, false => .empty

end Sys2Proof

namespace Sys2Proof.Machine

/-! ### Marks and frames as they are sent -/

/-- R139: the three marks. -/
def openMark : List CellClass := [.violation, .zero]

def closeMark : List CellClass := [.violation, .one]

def abortCells : List CellClass := [.violation, .violation]

/-- R138: a bit as a cell. -/
def bitCell (b : Bool) : CellClass := if b then .one else .zero

/-- R138: a byte goes out low bit first. -/
def byteCells (b : Byte) : List CellClass := (List.range 8).map (fun i => bitCell (b.getLsbD i))

/-- R145: a frame's cells with no idle cell between them: open mark, header, payload and CRC, close mark. -/
def frameCells (bytes : List Byte) : List CellClass := openMark ++ bytes.flatMap byteCells ++ closeMark

/-- R145: a frame of n bytes takes n x 8 + 4 cells, its two marks counted. -/
def sendNs (n : Nat) : Nat := (n * 8 + 4) * Config.cellNs

/-! ### Cutting a frame (R146, log 19) -/

/-- R146: how many cells of a frame of `n` bytes go out when it is cut in cell `k`: the byte begun is completed, and so is
the open mark, or the cell of the close mark that is going out. -/
def cellsKept (n k : Nat) : Nat :=
  if k < 2 then 2
  else if k < 2 + 8 * n then 2 + 8 * ((k - 2) / 8 + 1)
  else k + 1

/-- R146, R139: what goes out from cell `k` on when a frame is cut in it, the abort mark last. The close mark's VIOLATION, if
it is going out, is the abort mark's first. -/
def cutCells (bytes : List Byte) (k : Nat) : List CellClass :=
  ((frameCells bytes).take (cellsKept bytes.length k)).drop k ++
    (if k = 2 + 8 * bytes.length then [.violation] else abortCells)

/-- R146: the transmitter is cut `gone` ns into a frame: the cells from the one going out, and the time they still take. -/
def LoopPort.cutFrame (p : LoopPort) (bytes : List Byte) (gone : Nat) : LoopPort :=
  let rest := cutCells bytes (gone / Config.cellNs)
  { p with tx := .aborting rest, txTimer := some (rest.length * Config.cellNs - gone % Config.cellNs) }

/-! ### The loop-out output -/

/-- The cell going out of `cells` when they have `left` ns to run; idle when they have ended. -/
def cellNow (cells : List CellClass) (left : Nat) : CellClass :=
  (cells.drop (cells.length - (left + (Config.cellNs - 1)) / Config.cellNs)).headD .one

/-- R138, R139, R145 to R147: the cell the transmitter drives on loop-out; none while it is silent. An idle cell is a ONE. -/
def LoopPort.loopOut (p : LoopPort) : Option CellClass :=
  match p.tx with
  | .silent => none
  | .gap => some .one
  | .free => some .one
  | .sending bytes => some (cellNow (frameCells bytes) (p.txTimer.getD 0))
  | .aborting cells => some (cellNow cells (p.txTimer.getD 0))

end Sys2Proof.Machine
end

