-- ==== Sys2Proof/Machine/Queues.lean ====
section
/-! DEFINITION. The two queues, the arbiter and the transmitter (R145, R146, R161 to R163), the link states (R148 to R152),
and the request for a BINSTATE (R111). -/

namespace Sys2Proof.Machine

/-! ### The transmitter -/

/-- R145: the transmitter begins a frame. DESIGN CHOICE, unsafe (log 38): the open mark begins at the moment of asking, and the
idle cell going out then is not completed first. -/
def State.beginSend (s : State) (f : Frame) : State :=
  s.setPort { s.port with tx := .sending f.lineBytes, txTimer := some (sendNs f.lineBytes.length) }

/-- R145: idle cells begin to go out, and 16 of them make the gap. -/
def LoopPort.gap (p : LoopPort) : LoopPort := { p with tx := .gap, txTimer := some (Config.gapCells * Config.cellNs) }

/-- R163: the frame the arbiter gives, with the queues and the fairness count after it; none when both queues are empty. -/
def LoopTraffic.arbitrate (u : LoopTraffic) : Option (Frame × LoopTraffic) :=
  match u.transitQueue, u.ownQueue with
  | [], [] => none
  | t :: ts, [] => some (t, { u with transitQueue := ts })
  | [], o :: os => some (o, { u with ownQueue := os, fairness := 0 })
  | t :: ts, o :: os =>
    if u.fairness < 4 then some (t, { u with transitQueue := ts, fairness := u.fairness + 1 })
    else some (o, { u with ownQueue := os, fairness := 0 })

/-- R145, R162: a FREE transmitter asks the arbiter, and sends what it is given. DESIGN CHOICE, unsafe (log 30): it asks at once,
within the event, for each frame that is queued. -/
def State.askArbiter (s : State) : State :=
  if s.port.tx = .free then
    match s.ltu.arbitrate with
    | none => s
    | some (f, u) => (s.setLtu u).beginSend f
  else s

/-! ### Queueing -/

/-- A BINSTATE waits in the own queue (R162). -/
def LoopTraffic.holds (u : LoopTraffic) (kind : Nat) : Bool := u.ownQueue.any (fun f => f.kind == kind)

/-- R162, R171: a frame this station built asks for the own queue. -/
def State.enqueueOwn (s : State) (f : Frame) : State :=
  if s.port.link = .bypassed then s
  else if f.kind = Config.kindBinstate ∧ s.ltu.holds Config.kindBinstate = true then
    (s.setLtu { s.ltu with
      ownQueue := s.ltu.ownQueue.map (fun g => if g.kind = Config.kindBinstate then f else g) }).askArbiter
  else if Config.ownQueueMax ≤ s.ltu.ownQueue.length then s.count .queueDrops
  else (s.setLtu { s.ltu with ownQueue := s.ltu.ownQueue ++ [f] }).askArbiter

/-- R161: a frame to be repeated. -/
def State.repeatFrame (s : State) (f : Frame) : State :=
  if f.hop < 2 ∨ Config.transitQueueMax ≤ s.ltu.transitQueue.length then s.count .queueDrops
  else (s.setLtu { s.ltu with transitQueue := s.ltu.transitQueue ++ [{ f with hop := f.hop - 1 }] }).askArbiter

/-! ### BINSTATE requests (R111) -/

/-- A cause to send BINSTATE has come in this event (log 5). -/
def State.askBinstate (s : State) : State := s.setBins { s.bins with asked := true }

/-- R111: the content is built now and queued, and the period timer restarts. -/
def State.requestBinstate (s : State) : State :=
  (s.setBins { s.bins with asked := false, periodTimer := Timer.start Config.binstateMs }).enqueueOwn s.binstateFrame

/-! ### The link (section 8.8) -/

/-- R150: the loss timer for a receiver and a link state: it runs in LOSS while JOINING or JOINED. -/
def lossTimerFor (rx : RxState) (link : LinkState) (t : Timer) : Timer :=
  if rx = .loss ∧ (link = .joining ∨ link = .joined) then
    match t with
    | none => Timer.start Config.lossMs
    | some r => some r
  else none

/-- The link changes to `l`, and the loss timer with it. -/
def State.toLink (s : State) (l : LinkState) : State :=
  s.setPort { s.port with link := l, lossTimer := lossTimerFor s.port.rx l s.port.lossTimer }

/-- R148, R164: a joining ROLL is asked for, and the next request is 200 ms away. -/
def State.requestJoiningRoll (s : State) : State :=
  ((s.setLtu { s.ltu with joinRetry := min 5 (s.ltu.joinRetry + 1) }).setPort
    { s.port with joinTimer := Timer.start Config.joinMs }).enqueueOwn (s.rollFrame true)

/-- R148, R151: the link enters JOINING, from BYPASSED with the relay driven open and the transmitter started in GAP, or
from SEVERED with the transmitter going on; the count of requests starts afresh. DESIGN CHOICE, unsafe (log 36): the return
from SEVERED begins no new gap, so a FREE transmitter sends the joining ROLL at once. -/
def State.join (s : State) : State :=
  let p := if s.port.tx = .silent then s.port.gap else s.port
  (((s.setPort { p with relayDrive := true }).toLink .joining).setLtu { s.ltu with joinRetry := 0 }).requestJoiningRoll

/-- R149 to R151: the link becomes SEVERED; the idle run is set to 0 except in R150's timer-first case. -/
def State.sever (s : State) (keepIdleRun : Bool) : State :=
  let s1 := s.toLink .severed
  s1.setPort { s1.port with joinTimer := none, idleRun := if keepIdleRun then s1.port.idleRun else 0 }

/-- R149: this station's own ROLL has returned. -/
def State.ownRollReturned (s : State) : State :=
  if s.port.link = .joining ∨ s.port.link = .severed then
    let s1 := s.toLink .joined
    s1.setPort { s1.port with joinTimer := none }
  else s

/-- R146, R152: the transmitter ends as the link goes to BYPASSED: a frame being sent is cut, otherwise it stops and the
relay is driven closed at once. -/
def LoopPort.leaveRing (p : LoopPort) : LoopPort :=
  match p.tx with
  | .sending bytes => p.cutFrame bytes (sendNs bytes.length - p.txTimer.getD 0)
  | .aborting _ => p
  | .silent => { p with txTimer := none, relayDrive := false }
  | .gap => { p with tx := .silent, txTimer := none, relayDrive := false }
  | .free => { p with tx := .silent, txTimer := none, relayDrive := false }

/-- R152, R171, R180, R172: a halt request: the Loop Traffic Unit takes its reset values. DEDUCED, safe (log 31): its peer table
alone is held as it stood (R171). DESIGN CHOICE, unsafe (log 37): the link is BYPASSED at once, while the relay drive stays on until a cut frame's abort mark has gone out. -/
def State.haltLink (s : State) : State :=
  (s.setPort { s.port.leaveRing with link := .bypassed, lossTimer := none, joinTimer := none }).setLtu
    { s.ltu with transitQueue := [], ownQueue := [], fairness := 0, joinRetry := 0, recallTimer := none }

end Sys2Proof.Machine
end

