-- ==== Sys2Proof/Machine/BinOps.lean ====
section
/-! DEFINITION. The Bin Unit's operations: writing a bin record with its retention and its cause for BINSTATE, reservations
and the other requests, the service visit, the start, and the Fill Board (chapter 6). -/

namespace Sys2Proof.Machine

/-! ### The bin record -/

/-- Section 6.1: the level a record gives under its settings. -/
def BinRecord.level (r : BinRecord) (c : BinSettings) : Nat := sixteenths (r.fill + r.pending) c.capacity

/-- R111: the change from `old` to `new` is a cause to send BINSTATE. -/
def BinRecord.reportable (old new : BinRecord) (c : BinSettings) : Bool :=
  c.configured && (old.state != new.state || old.level c != new.level c || old.unverified != new.unverified ||
    old.faultShown != new.faultShown)

/-- R109: the position's fill and unverified flag are written at each change of either. -/
def Retention.writeBin (m : Retention) (b : BinNo) (r : BinRecord) : Retention :=
  { m with bins := m.bins.set b { m.bins.get b with fill := r.fill, unverified := r.unverified } }

/-- Bin `b`'s record becomes `r`: retention memory follows (R109), and a BINSTATE is asked for if it shows (R111). -/
def State.setBin (s : State) (b : BinNo) (r : BinRecord) : State :=
  let old := s.bins.recs.get b
  let s1 := s.setBins { s.bins with
    recs := s.bins.recs.set b r
    asked := s.bins.asked || old.reportable r (s.binCfg b) }
  if old.fill = r.fill ∧ old.unverified = r.unverified then s1 else s1.setRetention (s1.retention.writeBin b r)

/-- R99: the test after a change of fill in OPEN or NEAR. -/
def afterFill (c : BinSettings) (r : BinRecord) : BinRecord :=
  if r.state.takes then
    if r.fill = c.capacity then { r with state := .full }
    else if r.state = .opened then { r with state := stateByFill c r.fill }
    else r
  else r

/-! ### Requests (R101, R102, R96) -/

/-- R101: what a reservation needs. -/
def State.grants (s : State) (b : BinNo) : Bool :=
  let r := s.bins.recs.get b
  (s.binCfg b).configured && r.state.takes && decide (r.fill + r.pending < (s.binCfg b).capacity) && decide (r.pending < 8)

/-- R101: a granted reservation. -/
def State.reserve (s : State) (b : BinNo) : State :=
  let r := s.bins.recs.get b
  s.setBin b { r with pending := r.pending + 1 }

/-- R102: a reservation release or a detach; nothing if pending is 0. -/
def State.unreserve (s : State) (b : BinNo) : State :=
  let r := s.bins.recs.get b
  if r.pending = 0 then s else s.setBin b { r with pending := r.pending - 1 }

/-- R102: a verify clear: fill rises and pending falls together, then R99; nothing if pending is 0. -/
def State.binVerifyClear (s : State) (b : BinNo) : State :=
  let r := s.bins.recs.get b
  if r.pending = 0 then s
  else s.setBin b (afterFill (s.binCfg b) { r with fill := r.fill + 1, pending := r.pending - 1 })

/-- R96: the ejector of bin `b` enters or leaves FAULT. -/
def State.showFault (s : State) (b : BinNo) (on : Bool) : State :=
  s.setBin b { s.bins.recs.get b with faultShown := on }

/-- The sensor events that the reservation requests still to come in this command take (R104, log 28). -/
def State.setBetween (s : State) (l : List (List BinEvent)) : State := s.setBins { s.bins with between := l }

/-! ### Sensors (R97) -/

def BinUnit.sensor (u : BinUnit) (b : BinNo) (k : BinSensor) : Sensor :=
  match k with
  | .present => u.present.get b
  | .full => u.full.get b

def BinUnit.setSensor (u : BinUnit) (b : BinNo) (k : BinSensor) (x : Sensor) : BinUnit :=
  match k with
  | .present => { u with present := u.present.set b x }
  | .full => { u with full := u.full.set b x }

/-- R96, R97: the sensor is read: the bin is configured, and a full sensor is fitted. -/
def State.reads (s : State) (b : BinNo) (k : BinSensor) : Bool :=
  (s.binCfg b).configured && (k == .present || (s.binCfg b).fullFitted)

/-- R97: the settle time. -/
def settleMs (k : BinSensor) : Nat :=
  match k with
  | .present => Config.presentSettleMs
  | .full => Config.fullSettleMs

/-- R97: the sensor has held the new level `level` for its settle time. -/
def State.settled (s : State) (b : BinNo) (k : BinSensor) (level : Bool) : Bool :=
  s.running && s.reads b k && Timer.due (s.bins.sensor b k).timer && (s.bins.sensor b k).settled != level &&
    s.pins.binSensor b k == level

/-- R97: the sensor's event: its settled level is `level`. -/
def State.takeSensor (s : State) (b : BinNo) (k : BinSensor) (level : Bool) : State :=
  s.setBins (s.bins.setSensor b k ⟨level, none⟩)

/-! ### The service visit (R106 to R108) -/

/-- R107: during a visit the saved state and mark of bin `b` change. -/
def State.setSlot (s : State) (b : BinNo) (x : SnapshotSlot) : State :=
  s.setBins { s.bins with snapshot := s.bins.snapshot.map (fun q => q.set b x) }

/-- R106: the snapshot slot of a bin at the entry. -/
def slotAtEntry (r : BinRecord) : SnapshotSlot := ⟨r.state, .kept⟩

/-- R106: a configured bin that is not ABSENT shows HELD. -/
def State.showHeld (s : State) (b : BinNo) : State :=
  if (s.bins.recs.get b).state = .absent then s else s.setBin b { s.bins.recs.get b with state := .held }

/-- R106: the snapshot is taken and the bins show HELD. -/
def State.enterVisit (s : State) : State :=
  s.cfg.configuredBins.foldl State.showHeld (s.setBins { s.bins with snapshot := some (s.bins.recs.map slotAtEntry) })

/-- R108: what a bin becomes at the exit. -/
def State.recordAtExit (s : State) (b : BinNo) (mark : VisitMark) : BinRecord :=
  let r := s.bins.recs.get b
  if (s.bins.present.get b).settled = false then { r with state := .absent, fill := 0, pending := 0 }
  else match mark with
    | .fresh => { r with state := if s.fullActive b then .full else .opened, fill := 0 }
    | .kept => { r with state := stateFound (s.binCfg b) r.fill (s.fullActive b) }
    | .replaced => { r with state := .absent, fill := 0, pending := 0 }

/-- R108: the exit from SERVICE to RUN: each configured bin takes its state, and the snapshot is discarded. -/
def State.leaveVisit (s : State) : State :=
  match s.bins.snapshot with
  | none => s
  | some q =>
    let s1 := s.cfg.configuredBins.foldl (fun acc b => acc.setBin b (acc.recordAtExit b (q.get b).mark)) s
    s1.setBins { s1.bins with snapshot := none }

/-! ### The entry to RUN (R97, R109, R110) -/

/-- R110: what a configured bin is at the entry to RUN. -/
def recordAtStart (c : BinSettings) (m : BinRetention) (present fullActive faultShown : Bool) : BinRecord :=
  if present then
    let same := m.cls == c.cls
    let fill := if same then min m.fill c.capacity else 0
    { state := stateFound c fill fullActive, fill := fill, pending := 0, unverified := if same then m.unverified else true,
      faultShown := faultShown }
  else { state := .absent, fill := 0, pending := 0, unverified := false, faultShown := faultShown }

/-- R97, R110: position `b` takes its sensors, its record and its retention record. -/
def State.startBin (s : State) (b : BinNo) : State :=
  let c := s.binCfg b
  let m := s.retention.bins.get b
  if c.configured then
    let full := c.fullFitted && s.pins.binFull.get b
    let r := recordAtStart c m (s.pins.binPresent.get b) full (s.bins.recs.get b).faultShown
    (s.setBins { s.bins with
      recs := s.bins.recs.set b r
      present := s.bins.present.set b ⟨s.pins.binPresent.get b, none⟩
      full := s.bins.full.set b ⟨full, none⟩ }).setRetention
      { s.retention with bins := s.retention.bins.set b ⟨r.fill, r.unverified, c.cls⟩ }
  else s.setRetention { s.retention with bins := s.retention.bins.set b ⟨0, false, 0⟩ }

/-- R110, R111: the Bin Unit at the run notice; the first BINSTATE is asked for. -/
def State.startBins (s : State) : State := (allBins.foldl State.startBin s).askBinstate

/-! ### The Fill Board (R114 to R116) -/

/-- R115: what a bin report is checked for. -/
def BinReport.ok (r : BinReport) : Bool :=
  decide (1 ≤ r.bin ∧ r.bin ≤ 4) && decide (1 ≤ r.cls ∧ r.cls ≤ 12) && decide (1 ≤ r.capacity ∧ r.capacity ≤ 1000) &&
    decide (r.fill ≤ r.capacity) && decide (r.pending ≤ 8) && r.state.isSome

/-- No number twice in a list. -/
def noRepeats : List Nat → Bool
  | [] => true
  | x :: rest => !rest.contains x && noRepeats rest

/-- R115: the checks on a BINSTATE payload, the origin's apart. -/
def binstateOk (payload : List Byte) : Bool :=
  (decodeHeader payload).mode.isSome && (decodeReports payload).all BinReport.ok &&
    noRepeats ((decodeReports payload).map BinReport.bin)

/-- R114, R115: the entry a bin report writes. -/
def boardEntry (peer : Nat) (h : BinstateHeader) (now : BitVec 32) (r : BinReport) : BoardEntry :=
  { peer := peer, bin := r.bin, cls := r.cls, state := r.state.getD .absent, fill := r.fill, pending := r.pending,
    capacity := r.capacity, unverified := r.unverified, fault := r.fault, modeRun := h.mode == some .run,
    tracking := h.tracking, degraded := h.degraded, refresh := now }

/-- R116: every Fill Board entry of a peer is removed. -/
def State.forgetBoard (s : State) (peer : Nat) : State :=
  s.setBins { s.bins with board := s.bins.board.filter (fun e => e.peer != peer) }

/-- R115: the peer's entries are replaced whole by those of the frame. -/
def State.takeBinstate (s : State) (origin : Nat) (payload : List Byte) : State :=
  let h := decodeHeader payload
  let entries := (decodeReports payload).map (boardEntry origin h s.ctl.clock)
  s.setBins { s.bins with board := s.bins.board.filter (fun e => e.peer != origin) ++ entries }

end Sys2Proof.Machine
end

