-- ==== Sys2Proof/Machine/TransitOps.lean ====
section
/-! DEFINITION. The Transit List: order, references, the Ejection Unit's requests, the exit decision and the release
(chapter 5). -/

namespace Sys2Proof.Machine

/-- The list of transit entries replaced. -/
def State.setTransit (s : State) (l : List TransitEntry) : State := s.setTrk { s.trk with transit := l }

/-- R78: the held entry that carries a reference. -/
def State.entry (s : State) (ref : Nat) : Option TransitEntry := s.trk.transit.find? (fun e => e.ref == ref)

/-- The entry that carries `ref` is changed by `f`; a reference no entry carries changes nothing (R78). -/
def State.updateEntry (s : State) (ref : Nat) (f : TransitEntry → TransitEntry) : State :=
  s.setTransit (s.trk.transit.map (fun e => if e.ref = ref then f e else e))

/-- The entry that carries `ref` is removed. -/
def State.removeEntry (s : State) (ref : Nat) : State := s.setTransit (s.trk.transit.filter (fun e => e.ref != ref))

/-- R77: the bin an entry names. -/
def EntryState.names (x : EntryState) : Option BinNo :=
  match x with
  | .pass _ => none
  | .scheduled b _ => some b
  | .fired b _ detached => if detached then none else some b

/-- The entry is in PASS. -/
def EntryState.isPass (x : EntryState) : Bool :=
  match x with
  | .pass _ => true
  | .scheduled _ _ => false
  | .fired _ _ _ => false

/-- R86: where an entry's exit extent begins, and its exit end. -/
def State.exitStart (s : State) (t : Ticket) : Nat := (t.lead + s.cfg.exitX) % s.cfg.span

def State.exitEnd (s : State) (t : Ticket) : Nat := (t.lead + s.cfg.exitX + t.length - 1) % s.cfg.span

/-! ### Release (R89 to R91) -/

/-- R89: the ticket as released, the pass reason `r` being this station's. -/
def releasedTicket (t : Ticket) (r : PassReason) : Ticket :=
  { t with passes := min 15 (t.passes + 1), lastReason := some r }

/-- R91: class 13. -/
def classForeign : Nat := 13

/-- R90, R91: a released ticket goes to the next downstream peer, or to the end catch. -/
def State.sendRelease (s : State) (t : Ticket) : State :=
  match s.nextPeer with
  | some p =>
    (s.count .passedToPeer).enqueueOwn (s.buildFrame Config.kindTicket p.address (encodeTicket t false))
  | none =>
    let s1 := s.count .toEndCatch
    if t.cls = classForeign then s1.setTrk { s1.trk with foreignPulse := Timer.start Config.foreignPulseMs } else s1

/-- R87 to R89: an entry in PASS with exit done set is decided: released if its exit-blocked flag is set, else vanished. -/
def State.decideExit (s : State) (ref : Nat) : State :=
  match s.entry ref with
  | none => s
  | some e =>
    match e.state with
    | .pass r =>
      if e.exitDone then
        if e.exitBlocked then (s.removeEntry ref).sendRelease (releasedTicket e.ticket r)
        else (s.removeEntry ref).count .vanished
      else s
    | .scheduled _ _ => s
    | .fired _ _ _ => s

/-! ### Requests of the Ejection Unit (R80) -/

/-- R80: fired. -/
def firedEntry (e : TransitEntry) : TransitEntry :=
  match e.state with
  | .scheduled b fp => { e with state := .fired b fp false }
  | .pass _ => e
  | .fired _ _ _ => e

/-- R80: pass, with a reason. -/
def passedEntry (r : PassReason) (e : TransitEntry) : TransitEntry :=
  match e.state with
  | .scheduled _ _ => { e with state := .pass r }
  | .pass _ => e
  | .fired _ _ _ => e

/-- R80, R81: detach. -/
def detachedEntry (e : TransitEntry) : TransitEntry :=
  match e.state with
  | .fired b fp _ => { e with state := .fired b fp true }
  | .pass _ => e
  | .scheduled _ _ => e

/-- R80: verify blocked. -/
def missedEntry (e : TransitEntry) : TransitEntry :=
  match e.state with
  | .fired _ _ _ => { e with state := .pass .missed, ticket := { e.ticket with missed := min 3 (e.ticket.missed + 1) } }
  | .pass _ => e
  | .scheduled _ _ => e

/-- R80: the fired request. -/
def State.requestFired (s : State) (ref : Nat) : State := s.updateEntry ref firedEntry

/-- R80, R87: the pass request; an entry whose exit extent is already crossed is decided within the event. -/
def State.requestPass (s : State) (ref : Nat) (r : PassReason) : State :=
  (s.updateEntry ref (passedEntry r)).decideExit ref

/-- R80: the detach request. -/
def State.requestDetach (s : State) (ref : Nat) : State := s.updateEntry ref detachedEntry

/-- R80, R87: the verify blocked request. -/
def State.requestMissed (s : State) (ref : Nat) : State := (s.updateEntry ref missedEntry).decideExit ref

/-- R80: the verify clear request: an entry in FIRED is removed as ejected. -/
def State.requestEjected (s : State) (ref : Nat) : State :=
  match s.entry ref with
  | some e =>
    match e.state with
    | .fired _ _ _ => s.removeEntry ref
    | .pass _ => s
    | .scheduled _ _ => s
  | none => s

/-! ### Insertion (R78, R79) -/

/-- R78: the first reference from `n` that no held entry carries, trying `fuel` values, 255 followed by 0. -/
def freeRef (l : List TransitEntry) : Nat → Nat → Nat
  | 0, n => n
  | fuel + 1, n => if l.any (fun e => e.ref == n) then freeRef l fuel ((n + 1) % 256) else n

/-- The place of a position at distance `d` in a list ordered by distance: after every entry at most as far. -/
def insertByDist {α : Type} (dist : α → Int) (x : α) : List α → List α
  | [] => [x]
  | y :: rest => if dist y ≤ dist x then y :: insertByDist dist x rest else x :: y :: rest

/-- R79: the entry's place in the Transit List. -/
def State.insertTransit (s : State) (e : TransitEntry) : State :=
  s.setTransit (insertByDist (fun x => s.dist x.ticket.lead) e s.trk.transit)

/-- R87: an entry whose exit end the gate position has already reached takes no exit sample. -/
def State.exitReached (s : State) (t : Ticket) : Bool := decide (s.dist (s.exitEnd t) ≤ 0)

/-! ### The exit line at a step event (R86, R87) -/

/-- R86, R87: what a step event's sample does to one entry's exit flags. -/
def exitSampled (ev : StepEvent) (span start stop : Nat) (blocked : Bool) (e : TransitEntry) : TransitEntry :=
  { e with
    exitBlocked := e.exitBlocked || (blocked && ev.touches span start e.ticket.length)
    exitDone := e.exitDone || ev.covers span stop }

/-- R86, R87: the exit beam is sampled, and each entry in PASS whose exit extent is crossed is decided.
DESIGN CHOICE, unsafe (log 34): entries whose exit extents end at one event are decided in list order. -/
def State.exitLine (s : State) (ev : StepEvent) : State :=
  let l := s.trk.transit.map (fun e =>
    exitSampled ev s.cfg.span (s.exitStart e.ticket) (s.exitEnd e.ticket) s.pins.exitBlocked e)
  (l.map (fun e => e.ref)).foldl State.decideExit (s.setTransit l)

end Sys2Proof.Machine
end

