-- ==== Sys2Proof/Machine/EjectionOps.lean ====
section
/-! DEFINITION. The Ejection Unit: cancellations, faults, the decision, and its work at a step event (chapter 7). -/

namespace Sys2Proof.Machine

/-- Ejector `b`'s record replaced. -/
def State.setEjector (s : State) (b : BinNo) (e : Ejector) : State := s.setEj (s.ej.set b e)

/-! ### Cancellation, cut and fault (R130 to R133) -/

/-- Section 7.7: one cancelled entry: its reservation is released and it passes with the cause's reason. -/
def State.cancelItem (s : State) (b : BinNo) (r : PassReason) (it : SchedItem) : State :=
  (s.unreserve b).requestPass it.ref r

/-- Section 7.7: every entry of schedule `b` is cancelled, in schedule order. R132 states that order for a full or a removed
bin. For an ejector's FAULT (R130), and for the entries to SERVICE and SAFE (R133), the spec gives none: schedule order is the
model's choice there. DESIGN CHOICE, unsafe (log 41). -/
def State.cancelSchedule (s : State) (b : BinNo) (r : PassReason) : State :=
  (s.ej.get b).schedule.foldl (fun acc it => acc.cancelItem b r it)
    (s.setEjector b { s.ej.get b with schedule := [] })

/-- R130: ejector `b` enters FAULT; one that is in FAULT stays as it is. -/
def State.enterFault (s : State) (b : BinNo) : State :=
  if (s.ej.get b).state = .fault then s
  else
    ((s.setEjector b { s.ej.get b with state := .fault, shadow := false, pulse := none, recovery := none }).cancelSchedule
      b .busy).showFault b true

/-- R125, R133: the ejector's pulse ends or is cut, and its recovery timer starts. -/
def Ejector.recover (e : Ejector) (recoveryMs : Nat) : Ejector :=
  { e with state := .recovering, shadow := false, pulse := none, recovery := Timer.start recoveryMs }

/-- R133: a pulse in progress at ejector `b` is cut and counted. -/
def State.cut (s : State) (b : BinNo) : State :=
  if (s.ej.get b).state = .pulsing then
    (s.setEjector b ((s.ej.get b).recover (s.binCfg b).recoveryMs)).count .cuts
  else s

/-- R133: every pulse in progress is cut. -/
def State.cutAll (s : State) : State := allBins.foldl State.cut s

/-- R133: every entry of every schedule is cancelled. That the schedules are taken in order of bin number is the model's
choice. DESIGN CHOICE, unsafe (log 41). -/
def State.cancelAll (s : State) (r : PassReason) : State := allBins.foldl (fun acc b => acc.cancelSchedule b r) s

/-- R132, R103: every attached item of watch `b` is detached, and its bin's pending falls for each. -/
def State.detachWatch (s : State) (b : BinNo) : State :=
  let e := s.ej.get b
  (e.watch.filter (fun w => !w.detached)).foldl (fun acc w => (acc.requestDetach w.ref).unreserve b)
    (s.setEjector b { e with watch := e.watch.map (fun w => { w with detached := true }) })

/-- R131: at the exit from SERVICE to RUN ejector `b`'s misses become 0, and a FAULT clears. -/
def State.clearFault (s : State) (b : BinNo) : State :=
  let e := s.ej.get b
  if e.state = .fault then (s.setEjector b { e with state := .ready, misses := 0 }).showFault b false
  else s.setEjector b { e with misses := 0 }

/-! ### A bin pulled or full, and what comes between a decision's tests and its request (R100, R103, R104, R132) -/

/-- R103, R107: a bin is pulled: cancellations, detaches, then fill 0 and ABSENT. -/
def State.removeBin (b : BinNo) (s : State) : State :=
  if (s.bins.recs.get b).state = .absent then s
  else
    let s1 := (s.cancelSchedule b .binRemoved).detachWatch b
    (s1.setBin b { s1.bins.recs.get b with fill := 0, state := .absent }).setSlot b ⟨.absent, .replaced⟩

/-- R97, R103: a settled bin-present fall. -/
def State.removal (b : BinNo) (s : State) : State :=
  if s.settled b .present false then (s.takeSensor b .present false).removeBin b else s

/-- R100: an OPEN or NEAR bin becomes FULL, and its SCHEDULED entries are cancelled. -/
def State.fillUp (b : BinNo) (s : State) : State :=
  if (s.bins.recs.get b).state.takes then
    (s.setBin b { s.bins.recs.get b with state := .full }).cancelSchedule b .full
  else s

/-- R97, R100: a settled full-sensor rise. -/
def State.fullSensorRise (b : BinNo) (s : State) : State :=
  if s.settled b .full true then (s.takeSensor b .full true).fillUp b else s

/-- R104: a sensor event that comes together with a reservation request. -/
def State.binEvent (s : State) (e : BinEvent) : State :=
  match e with
  | .removal b => s.removal b
  | .fullSensorRise b => s.fullSensorRise b

/-- R101, R104: the sensor events taken between the tests of a decision and its request. Each request takes its own list. -/
def State.takeBetween (s : State) : State :=
  match s.bins.between with
  | [] => s
  | l :: rest => l.foldl State.binEvent (s.setBetween rest)

/-! ### The decision (R118 to R122) -/

/-- R119: the item's fire position at ejector `b`. -/
def State.firePosition (s : State) (b : BinNo) (t : Ticket) : Nat :=
  (t.lead + (s.binCfg b).line + t.length / 2) % s.cfg.span

/-- R119: a candidate bin for a class. -/
def State.candidateBin (s : State) (cls : Nat) (b : BinNo) : Bool :=
  (s.binCfg b).cls == cls && s.grants b && (s.ej.get b).state != .fault

/-- The absolute value of the signed difference of two positions. -/
def State.apart (s : State) (a b : Nat) : Nat := (signedDiff s.cfg.span a b).natAbs

/-- R119, test 6: the ejector has room for the fire position. -/
def State.ejectorRoom (s : State) (t : Ticket) (b : BinNo) : Bool :=
  let fp := s.firePosition b t
  let sched := (s.ej.get b).schedule
  decide (sched.length < Config.scheduleMax) &&
    sched.all (fun it => decide ((s.binCfg b).spacing ≤ s.apart fp it.firePos)) && decide (1 ≤ s.dist fp)

/-- R120: the bin of lowest level, the earlier on a tie. -/
def State.lowestBin (s : State) (l : List BinNo) : Option BinNo :=
  l.foldl (fun best b =>
    match best with
    | none => some b
    | some c => if s.binLevel b < s.binLevel c then some b else some c) none

/-- R121: an offering downstream bin of a class. -/
def State.offering (s : State) (cls : Nat) (e : BoardEntry) : Bool :=
  s.fresh e && e.cls == cls && e.state.takes && decide (e.fill + e.pending < e.capacity) && !e.unverified && !e.fault &&
    e.modeRun && e.tracking && !e.degraded &&
    (match s.peer e.peer with
     | some p => decide (s.cfg.gateDist < p.gateDist)
     | none => false)

/-- R121: the levels of the offering bins. -/
def State.offeredLevels (s : State) (cls : Nat) : List Nat :=
  (s.bins.board.filter (s.offering cls)).map (fun e => sixteenths (e.fill + e.pending) e.capacity)

/-- R121: class `cls` is EVEN. -/
def Settings.even (c : Settings) (cls : Nat) : Bool := c.balance.getLsbD (cls - 1)

/-- R121: the balance test for the chosen bin. -/
def State.balanceTakes (s : State) (cls : Nat) (b : BinNo) : Bool :=
  if s.cfg.even cls then
    match s.offeredLevels cls with
    | [] => true
    | l :: rest => decide (s.binLevel b ≤ rest.foldl min l + s.cfg.hysteresis)
  else true

/-- R122: the take: the request, after the sensor events taken before it (R101, R104; which they are is an operand, log 28);
granted, the place in the fire schedule; refused, FULL. -/
def State.take (s : State) (ref : Nat) (t : Ticket) (b : BinNo) : State × EntryState :=
  let s1 := s.takeBetween
  if s1.grants b then
    let fp := s1.firePosition b t
    let s2 := s1.reserve b
    let e := s2.ej.get b
    (s2.setEjector b { e with schedule := insertByDist (fun it => s2.dist it.firePos) ⟨ref, fp⟩ e.schedule },
      .scheduled b fp)
  else (s1, .pass .full)

/-- R118: the tests 1 to 4, in order. -/
def State.passAtOnce (s : State) (t : Ticket) : Option PassReason :=
  if s.ctl.mode = .safe then some .safety
  else if s.ctl.mode = .service then some .service
  else if s.pos.cond ≠ .normal then some .degraded
  else if t.cls = 0 ∨ t.cls = classForeign ∨ 2 ≤ t.missed then some .noSort
  else if s.cfg.configuredBins.any (fun b => (s.binCfg b).cls == t.cls) then none
  else some .noBin

/-- R118 to R122: the decision on an item, with what a take changes. -/
def State.decision (s : State) (ref : Nat) (t : Ticket) : State × EntryState :=
  match s.passAtOnce t with
  | some r => (s, .pass r)
  | none =>
    match s.cfg.configuredBins.filter (s.candidateBin t.cls) with
    | [] => (s, .pass .full)
    | c :: cs =>
      match s.lowestBin ((c :: cs).filter (s.ejectorRoom t)) with
      | none => (s, .pass .busy)
      | some b => if s.balanceTakes t.cls b then s.take ref t b else (s, .pass .deferred)

/-! ### Fire at a step event (R124) -/

/-- R127: the item that joins the watch at a fire. It is overdue when the gate position has reached its verify end. -/
def State.watchItem (s : State) (b : BinNo) (e : TransitEntry) : WatchItem :=
  { ref := e.ref, start := (e.ticket.lead + (s.binCfg b).verify) % s.cfg.span, length := e.ticket.length, blocked := false,
    detached := false, fresh := true,
    overdue := decide (s.dist ((e.ticket.lead + (s.binCfg b).verify + e.ticket.length - 1) % s.cfg.span) ≤ 0) }

/-- R124: the fire of one head. -/
def State.fire (s : State) (b : BinNo) (ref : Nat) : State :=
  let e := s.ej.get b
  let joined :=
    match s.entry ref with
    | some x => [s.watchItem b x]
    | none => []
  (s.setEjector b { e with
    state := .pulsing
    shadow := true
    pulse := Timer.start (s.binCfg b).pulseMs
    watch := e.watch ++ joined }).requestFired ref

/-- R124: one head, in the order of its checks. -/
def State.fireHead (s : State) (b : BinNo) (it : SchedItem) : State :=
  if s.pos.speed < s.cfg.minSpeed then s.cancelItem b .slow it
  else if (s.ej.get b).state ≠ .ready then s.cancelItem b .busy it
  else s.fire b it.ref

/-- R124: ejector `b` takes the heads whose fire positions the event covers. -/
def State.fireEjector (ev : StepEvent) (s : State) (b : BinNo) : State :=
  let e := s.ej.get b
  (e.schedule.takeWhile (fun it => ev.covers s.cfg.span it.firePos)).foldl (fun acc it => acc.fireHead b it)
    (s.setEjector b { e with schedule := e.schedule.dropWhile (fun it => ev.covers s.cfg.span it.firePos) })

/-- R124: the fires of a step event. DESIGN CHOICE, unsafe (log 29): the ejectors take the event in order of bin number. -/
def State.fires (s : State) (ev : StepEvent) : State := allBins.foldl (State.fireEjector ev) s

/-! ### Verify at a step event (R127 to R129) -/

/-- R127: an item takes the event's sample. An item fired at this event does not; one overdue does, whatever is covered. No
item does at a discontinuity, where R134 decides none. -/
def WatchItem.sampled (ev : StepEvent) (span : Nat) (blocked : Bool) (w : WatchItem) : WatchItem :=
  if w.fresh || ev.adv.isNone then w
  else { w with blocked := w.blocked || (blocked && (w.overdue || ev.touches span w.start w.length)) }

/-- R127: the event decides the item; a discontinuity decides none (R134). -/
def WatchItem.decided (ev : StepEvent) (span : Nat) (w : WatchItem) : Bool :=
  !w.fresh && ev.adv.isSome && (w.overdue || ev.covers span ((w.start + w.length - 1) % span))

/-- R128: an item decided clear. -/
def State.verifiedClear (s : State) (b : BinNo) (w : WatchItem) : State :=
  let s1 := (s.setEjector b { s.ej.get b with misses := 0 }).requestEjected w.ref
  let s2 := if w.detached then s1 else s1.binVerifyClear b
  s2.count .ejected

/-- R129: an item decided blocked. -/
def State.verifiedBlocked (s : State) (b : BinNo) (w : WatchItem) : State :=
  let m := min 2 ((s.ej.get b).misses + 1)
  let s1 := (s.setEjector b { s.ej.get b with misses := m }).count .missed
  let s2 := if w.detached then s1 else s1.unreserve b
  let s3 := s2.requestMissed w.ref
  if m = 2 then s3.enterFault b else s3

def State.verifyItem (s : State) (b : BinNo) (w : WatchItem) : State :=
  if w.blocked then s.verifiedBlocked b w else s.verifiedClear b w

/-- R127: ejector `b`'s sample is applied to its watch, and the items the event decides are decided in their order. -/
def State.verifyEjector (ev : StepEvent) (s : State) (b : BinNo) : State :=
  let e := s.ej.get b
  let l := e.watch.map (WatchItem.sampled ev s.cfg.span (s.pins.verifyBlocked.get b))
  (l.filter (WatchItem.decided ev s.cfg.span)).foldl (fun acc w => acc.verifyItem b w)
    (s.setEjector b { e with watch := l.filter (fun w => !w.decided ev s.cfg.span) })

/-- R127: the verifies of a step event. DESIGN CHOICE, unsafe (log 29): the ejectors take the event in order of bin number. -/
def State.verifies (s : State) (ev : StepEvent) : State := allBins.foldl (State.verifyEjector ev) s

/-- The step event has ended: its fires are fresh no more (log 18). -/
def Ejector.settle (e : Ejector) : Ejector := { e with watch := e.watch.map (fun w => { w with fresh := false }) }

def State.settleWatches (s : State) : State := s.setEj (s.ej.map Ejector.settle)

end Sys2Proof.Machine
end

