-- ==== Sys2Proof/Machine/Placement.lean ====
section
/-! DEFINITION. The Expect List and the placement of finished detections, late tickets, expiry and the flush (chapters 4
and 5). -/

namespace Sys2Proof.Machine

def State.setExpect (s : State) (l : List ExpectEntry) : State := s.setTrk { s.trk with expect := l }

/-! ### Merged lists, and a ticket's new measurement (R68 to R70) -/

/-- R70, R84: ids appended to the merged list of the ticket `own`, and whether one was discarded. -/
def appendIds (own : TicketId) (l : List TicketId) (ids : List TicketId) : List TicketId × Bool :=
  ids.foldl (fun (acc : List TicketId × Bool) i =>
    if i = own ∨ acc.1.contains i = true then acc
    else if 3 ≤ acc.1.length then (acc.1, true)
    else (acc.1 ++ [i], acc.2)) (l, false)

/-- R68: the larger of two metal values, an absent one giving way. -/
def largerMetal (a b : Option Nat) : Option Nat :=
  match a, b with
  | some x, some y => some (max x y)
  | some x, none => some x
  | none, some y => some y
  | none, none => none

/-- R68: a ticket with a detection's measurement. -/
def Ticket.measured (t : Ticket) (d : Detection) : Ticket :=
  { t with lead := d.lead, length := d.length, overlong := d.overlong, height := d.height, dim := d.dim,
           metal := largerMetal t.metal d.metal }

/-- R67: the fresh ticket of a stray, but for its id and class. -/
def freshTicket (d : Detection) : Ticket :=
  { id := ⟨0, 0⟩, lead := d.lead, length := d.length, overlong := d.overlong, cls := 0, height := d.height, dim := d.dim,
    metal := d.metal, passes := 0, lastReason := none, missed := 0, merged := [] }

/-- R69: the keeper: the candidate nearest `lead`, the earlier on a tie. -/
def nearestEntry (span lead : Nat) (first : ExpectEntry) (rest : List ExpectEntry) : ExpectEntry :=
  rest.foldl (fun best e =>
    if (signedDiff span e.ticket.lead lead).natAbs < (signedDiff span best.ticket.lead lead).natAbs then e else best) first

/-- R69, R70: the keeper's ticket after the merge, and whether the merge overflowed. -/
def mergedTicket (k : Ticket) (absorbed : List Ticket) (d : Detection) : Ticket × Bool :=
  let ids := appendIds k.id k.merged (absorbed.flatMap (fun t => t.id :: t.merged))
  ({ k.measured d with missed := absorbed.foldl (fun m t => max m t.missed) k.missed, merged := ids.1 }, ids.2)

/-- What the candidates make of a detection (R66). -/
structure Placement where
  ticket : Ticket
  basis : Option (Nat × Bool)
  forced : Bool
  stray : Bool
  counter : Counter
  deriving DecidableEq, Repr

/-- R66 to R70. -/
def placement (span : Nat) (d : Detection) (candidates : List ExpectEntry) : Placement :=
  match candidates with
  | [] => ⟨freshTicket d, none, false, true, .strays⟩
  | [e] => ⟨e.ticket.measured d, some (e.ticket.cls, e.trust), false, false, .matched⟩
  | e :: f :: rest =>
    let k := nearestEntry span d.lead e (f :: rest)
    let others := (e :: f :: rest).filter (fun x => x.ticket.id != k.ticket.id)
    let m := mergedTicket k.ticket (others.map (fun x => x.ticket)) d
    ⟨m.1, none, m.2, false, .merges⟩

/-- R44: the request for the class of a placed item. -/
def Placement.request (p : Placement) : ClassRequest :=
  { length := p.ticket.length, height := p.ticket.height, dim := p.ticket.dim, metal := p.ticket.metal,
    overlong := p.ticket.overlong, forced := p.forced, basis := p.basis }

/-- R71 step 2: the ticket with its class. -/
def Placement.classified (p : Placement) (table : List ClassRule) : Ticket :=
  { p.ticket with cls := classify table p.request }

/-! ### The open-detection link and expiry (R62 to R64) -/

/-- R62: an opened notice. -/
def State.openedNotice (s : State) (lead : Nat) : State := s.setTrk { s.trk with link := s.trk.link ++ [lead] }

/-- R62: a held detection leaves the link: handed over, or abandoned. -/
def State.releaseLink (s : State) (lead : Nat) : State := s.setTrk { s.trk with link := s.trk.link.erase lead }

/-- R62: past expiry. -/
def State.pastExpiry (s : State) (e : ExpectEntry) : Bool := decide (s.dist e.ticket.lead < -(s.cfg.matchW : Int))

/-- R64: protected by the oldest held detection. -/
def State.protectedEntry (s : State) (e : ExpectEntry) : Bool :=
  match s.trk.link with
  | [] => false
  | oldest :: _ => decide (s.dist (posSub s.cfg.span oldest s.cfg.matchW) ≤ s.dist e.ticket.lead)

/-- R63, R64: the entries that `gone` names are removed as LOST. -/
def State.loseEntries (s : State) (gone : ExpectEntry → Bool) : State :=
  (s.setExpect (s.trk.expect.filter (fun e => !gone e))).countMany .lost (s.trk.expect.filter gone).length

/-- R64: expiry at a trailing-edge event. -/
def State.expireAfterPlacement (s : State) : State := s.loseEntries (fun e => s.pastExpiry e && !s.protectedEntry e)

/-- R63: expiry at a step event. -/
def State.expireAtStep (s : State) : State := if s.trk.link = [] then s.loseEntries s.pastExpiry else s

/-! ### The trailing-edge event (R65 to R72) -/

/-- R53: the id is held in either list. -/
def TrackingUnit.holdsId (u : TrackingUnit) (i : TicketId) : Bool :=
  u.expect.any (fun e => e.ticket.id == i) || u.transit.any (fun e => e.ticket.id == i)

/-- R53: the first serial from `n` whose id is not held, trying `fuel` values, 4095 followed by 0. -/
def freeSerial (u : TrackingUnit) (address : Nat) : Nat → Nat → Nat
  | 0, n => n
  | fuel + 1, n => if u.holdsId ⟨address, n⟩ then freeSerial u address fuel ((n + 1) % 4096) else n

/-- R53: the serial for a stray. The lists hold at most 80 ids. -/
def State.nextSerial (s : State) : Nat := freeSerial s.trk s.ctl.address 81 s.trk.serial

/-- R53: the serial counter advances past `n`, and retention memory follows. -/
def State.advanceSerial (s : State) (n : Nat) : State :=
  (s.setTrk { s.trk with serial := (n + 1) % 4096 }).setRetention { s.retention with serial := (n + 1) % 4096 }

/-- R71 step 3, R79, R87: decision and insertion of a classified ticket. -/
def State.insertItem (s : State) (t : Ticket) (stray : Bool) (k : Counter) : State :=
  let ref := freeRef s.trk.transit 49 s.trk.refCount
  let d := (s.setTrk { s.trk with refCount := (ref + 1) % 256 }).decision ref t
  let reached := d.1.exitReached t
  ((d.1.insertTransit ⟨t, ref, d.2, stray, reached, reached⟩).count k).decideExit ref

/-- R66: the Expect entry is a candidate for the detection. -/
def State.candidate (s : State) (d : Detection) (e : ExpectEntry) : Bool :=
  let base := posSub s.cfg.span d.lead s.cfg.matchW
  decide (posSub s.cfg.span e.ticket.lead base ≤ posSub s.cfg.span d.trailing base)

/-- R66 to R72: the placement of a finished detection. -/
def State.place (s : State) (d : Detection) : State :=
  let p := placement s.cfg.span d (s.trk.expect.filter (s.candidate d))
  let s1 := s.setExpect (s.trk.expect.filter (fun e => !s.candidate d e))
  let t := p.classified s.classifier.table
  if s1.trk.transit.length < Config.transitMax then
    if p.stray then
      (s1.advanceSerial s1.nextSerial).insertItem { t with id := ⟨s1.ctl.address, s1.nextSerial⟩ } true p.counter
    else s1.insertItem t false p.counter
  else s1.count .untracked

/-- R62, R65, R71: the trailing-edge event. -/
def State.handOver (s : State) (d : Detection) : State :=
  let s1 := s.releaseLink d.lead
  if s1.pos.cond = .unsynced then s1.count .untracked else (s1.place d).expireAfterPlacement

/-! ### Arrival of a ticket (R54 to R60) -/

/-- R54: the ids of a merged list. -/
def mergedOk (own : TicketId) (l : List TicketId) : Bool :=
  decide (l.length ≤ 3) && l.all (fun i => decide (1 ≤ i.origin ∧ i.origin ≤ 16)) && decide l.Nodup && !l.contains own

/-- R54: the content check. -/
def Ticket.contentOk (t : Ticket) : Bool :=
  decide (1 ≤ t.id.origin ∧ t.id.origin ≤ 16) && decide (1 ≤ t.length ∧ t.length ≤ 1023) && decide (t.cls ≤ 13) &&
    decide (1 ≤ t.height ∧ t.height ≤ 12) && decide (t.dim ≤ 16) &&
    (match t.metal with
     | none => true
     | some m => decide (m ≤ 4095)) && mergedOk t.id t.merged

/-- R50: the trust flag of a ticket from `origin`. -/
def State.trusts (s : State) (origin : Nat) : Bool :=
  match s.peer origin with
  | some p => p.digestEqual
  | none => false

/-- R59: the entry's place in the Expect List. -/
def State.insertExpect (s : State) (e : ExpectEntry) (l : List ExpectEntry) : State :=
  s.setExpect (insertByDist (fun x => s.dist x.ticket.lead) e l)

/-- R59: a ticket that neither list holds, its distance in the window. -/
def State.admitTicket (s : State) (e : ExpectEntry) : State :=
  if s.trk.expect.length < Config.expectMax then s.insertExpect e s.trk.expect
  else
    match s.trk.expect.getLast? with
    | some far =>
      if s.dist e.ticket.lead < s.dist far.ticket.lead then (s.insertExpect e s.trk.expect.dropLast).count .untracked
      else s.count .untracked
    | none => s.count .untracked

/-- R83, R84: the entry that adopts a late ticket. -/
def adoptedEntry (t : Ticket) (e : TransitEntry) : TransitEntry :=
  let ids := appendIds t.id t.merged [e.ticket.id]
  { e with
    localStray := false
    ticket := { e.ticket with
      id := t.id, passes := t.passes, lastReason := t.lastReason, missed := min 3 (t.missed + e.ticket.missed),
      merged := ids.1, cls := if ids.2 then 0 else e.ticket.cls } }

/-- R82: the entry that would adopt a late ticket. -/
def State.adopter (s : State) (t : Ticket) : Option TransitEntry :=
  s.trk.transit.find? (fun e => e.localStray && decide (s.apart e.ticket.lead t.lead ≤ s.cfg.matchW))

/-- R60, R82: a late ticket. -/
def State.lateTicket (s : State) (t : Ticket) : State :=
  if s.dist t.lead < -(s.cfg.exitX : Int) then s.count .lateDropped
  else
    match s.adopter t with
    | some e => (s.updateEntry e.ref (adoptedEntry t)).count .adopted
    | none => s.count .lateDropped

/-- R57 to R60: a ticket of good content while the station is tracking. -/
def State.testTicket (s : State) (e : ExpectEntry) : State :=
  let d := s.dist e.ticket.lead
  let inWindow := decide (-(s.cfg.matchW : Int) ≤ d)
  if s.trk.transit.any (fun x => x.ticket.id == e.ticket.id) then s.count .untracked
  else if (Config.horizon : Int) < d then s.count .untracked
  else if s.trk.expect.any (fun x => x.ticket.id == e.ticket.id) then
    if inWindow then s.insertExpect e (s.trk.expect.filter (fun x => x.ticket.id != e.ticket.id))
    else s.count .untracked
  else if inWindow then s.admitTicket e
  else s.lateTicket e.ticket

/-- R54 to R57: a TICKET frame's payload is handed to the Tracking Unit. -/
def State.ticketArrival (s : State) (origin : Nat) (payload : List Byte) : State :=
  let t := decodeTicket payload
  if !t.contentOk then s.count .untracked
  else if s.pos.cond = .unsynced then s.count .untracked
  else s.testTicket ⟨{ t with lead := t.lead % s.cfg.span }, s.trusts origin, s.ctl.clock⟩

/-! ### The flush (R92, R134) -/

/-- R92 steps 1 and 2, R134: one entry's withdrawal or detach. -/
def State.withdraw (s : State) (e : TransitEntry) : State :=
  match e.state with
  | .pass _ => s
  | .scheduled b _ =>
    let j := s.ej.get b
    (s.setEjector b { j with schedule := j.schedule.filter (fun it => it.ref != e.ref) }).unreserve b
  | .fired b _ detached => if detached then s else s.unreserve b

/-- R92, R134: the flush of both lists and the four watches. -/
def State.flush (s : State) : State :=
  let s1 := s.trk.transit.foldl State.withdraw s
  let s2 := s1.setEj (s1.ej.map (fun e => { e with watch := [] }))
  (s2.setTrk { s2.trk with expect := [], transit := [] }).countMany .flushed
    (s.trk.transit.length + s.trk.expect.length)

/-- The Tracking Unit at a step event: the flush of a seam slip, the expiry of R63, the exit line. -/
def State.trackStep (s : State) (ev : StepEvent) : State :=
  let s1 := if ev.seamSlip then s.flush else s
  s1.expireAtStep.exitLine ev

end Sys2Proof.Machine
end

