-- ==== Sys2Proof/Machine/GateOps.lean ====
section
/-! DEFINITION. The Gate Unit: the curtain's sample, detections, and the coil window's close (chapter 2). -/

namespace Sys2Proof.Machine

/-! ### Beams (R23 to R25) -/

/-- R24, R25: a beam's runs and mask after a step event with an advance. -/
def Beam.update (b : Beam) (level : BeamLevel) (adv : Nat) : Beam :=
  if b.masked then
    if level = .clear then
      if 64 ≤ b.clear + adv then { masked := false, stuck := 0, clear := 64 } else { b with clear := b.clear + adv }
    else { b with clear := 0 }
  else if level = .clear then { b with stuck := 0 }
  else if 1024 ≤ b.stuck + adv then { masked := true, stuck := 1024, clear := 0 }
  else { b with stuck := b.stuck + adv }

/-- The beams after a step event; a beam without a report stays as it is. -/
def updateBeams (adv : Nat) : List Beam → List BeamLevel → List Beam
  | b :: bs, l :: ls => b.update l adv :: updateBeams adv bs ls
  | bs, [] => bs
  | [], _ => []

/-- R23, R27: what a masked sample gives: its not-clear beams, its DIM beams, and its highest not-clear beam number. -/
structure CurtainSample where
  notClear : Nat
  dim : Nat
  high : Nat
  deriving DecidableEq, Repr

/-- R23: the masked sample, the first beam being number `n`. -/
def maskedSample (n : Nat) : List Beam → List BeamLevel → CurtainSample
  | b :: bs, l :: ls =>
    let rest := maskedSample (n + 1) bs ls
    if b.masked = true ∨ l = .clear then rest
    else { notClear := rest.notClear + 1, dim := rest.dim + (if l = .dim then 1 else 0), high := max n rest.high }
  | _, _ => ⟨0, 0, 0⟩

/-- R23: the sample is occupied. -/
def CurtainSample.occupied (c : CurtainSample) : Bool := c.notClear != 0

/-! ### The open detection record (R26 to R31) -/

/-- R26: the record of a detection that opens at `pos`. -/
def openedRecord (pos : Nat) (c : CurtainSample) : OpenRecord :=
  { lead := pos, clearStart := none, height := c.high, notClear := c.notClear, dim := c.dim, metal := none }

/-- R27, R28: an occupied sample is gathered, and ends a clear run. -/
def OpenRecord.gather (r : OpenRecord) (c : CurtainSample) : OpenRecord :=
  { r with clearStart := none, height := max r.height c.high, notClear := r.notClear + c.notClear, dim := r.dim + c.dim }

/-- R27 to R29: the detection as it closes. -/
def OpenRecord.close (r : OpenRecord) (trailing length : Nat) (overlong : Bool) : Detection :=
  { lead := r.lead, trailing := trailing, length := length, overlong := overlong, height := r.height,
    dim := r.dim * 16 / r.notClear, metal := r.metal }

/-- R31, R32: the closing event: a full queue first finishes its oldest detection. -/
def State.closing (s : State) (d : Detection) (after : GateState) : State :=
  let s1 := s.setGate { s.gate with state := after, detection := none }
  let s2 :=
    if Config.completingMax ≤ s1.gate.completing.length then
      match s1.gate.completing with
      | oldest :: rest => (s1.setGate { s1.gate with completing := rest }).handOver oldest
      | [] => s1
    else s1
  s2.setGate { s2.gate with completing := s2.gate.completing ++ [d] }

/-- R29: the cut. -/
def State.cutDetection (s : State) (r : OpenRecord) (after : GateState) : State :=
  s.closing (r.close ((r.lead + s.cfg.lMax) % s.cfg.span) s.cfg.lMax true) after

/-- R28: an all-clear sample in OPEN; the clear run began at `start`. -/
def State.clearSample (s : State) (pos : Nat) (r : OpenRecord) (start : Nat) : State :=
  let span := s.cfg.span
  if s.cfg.lMax ≤ posSub span start r.lead then s.cutDetection r .idle
  else if s.cfg.gapBridge ≤ posSub span pos start then
    s.closing (r.close start (posSub span start r.lead) false) .idle
  else s.setGate { s.gate with detection := some { r with clearStart := some start } }

/-- R28, R29: a sample in OPEN. -/
def State.openSample (s : State) (pos : Nat) (r : OpenRecord) (c : CurtainSample) : State :=
  if c.occupied then
    if s.cfg.lMax ≤ posSub s.cfg.span pos r.lead then s.cutDetection (r.gather c) .waitClear
    else s.setGate { s.gate with detection := some (r.gather c) }
  else s.clearSample pos r (r.clearStart.getD pos)

/-- R26, R28, R30: the detection logic takes a sample. -/
def State.detect (s : State) (pos : Nat) (c : CurtainSample) : State :=
  match s.gate.state with
  | .idle =>
    if c.occupied then
      (s.setGate { s.gate with state := .opened, detection := some (openedRecord pos c) }).openedNotice pos
    else s
  | .opened =>
    match s.gate.detection with
    | some r => s.openSample pos r c
    | none => s
  | .waitClear => if c.occupied then s else s.setGate { s.gate with state := .idle }
  | .held => s

/-- R33: the held detections are discarded with their abandonment notices, and the sample decides the gate state. -/
def State.discontinuity (s : State) (c : CurtainSample) : State :=
  let leads := (s.gate.detection.toList.map (fun r => r.lead)) ++ s.gate.completing.map (fun d => d.lead)
  (leads.foldl State.releaseLink s).setGate
    { s.gate with detection := none, completing := [], state := if c.occupied then .waitClear else .idle }

/-- R36: a window is clear only while the gate state stays IDLE. -/
def GateUnit.noteWindow (g : GateUnit) : GateUnit := { g with windowClear := g.windowClear && g.state == .idle }

/-- The Gate Unit at a step event (R23, R33). -/
def State.gateStep (s : State) (ev : StepEvent) : State :=
  if s.gate.state = .held then s
  else
    let beams :=
      match ev.adv with
      | some a => updateBeams a s.gate.beams s.pins.curtain
      | none => s.gate.beams
    let c := maskedSample 1 beams s.pins.curtain
    let s1 := s.setGate { s.gate with beams := beams }
    let s2 := if ev.adv.isNone then s1.discontinuity c else s1.detect ev.pos c
    s2.setGate s2.gate.noteWindow

/-! ### The coil window (R34 to R38) -/

/-- R34: a usable count. -/
def Settings.usable (c : Settings) (count : Nat) : Bool := decide (c.coilFloor ≤ count ∧ count < Config.counterMax)

/-- R35: the fault state after a window of `count` cycles. -/
def GateUnit.faultUpdate (g : GateUnit) (floor count : Nat) : GateUnit :=
  if count < floor then
    let low := min 2 (g.lowRun + 1)
    { g with lowRun := low, goodRun := 0, coilFault := g.coilFault || low == 2, overRange := count == Config.counterMax }
  else
    let good := min 4 (g.goodRun + 1)
    { g with goodRun := good, lowRun := 0, coilFault := g.coilFault && good != 4, overRange := count == Config.counterMax }

/-- R37: the window's deviation, for a gate whose fault state is up to date. -/
def GateUnit.deviation (g : GateUnit) (usable : Bool) (count : Nat) : Option Nat :=
  match g.baseline with
  | none => none
  | some b => if usable && !g.coilFault then some (min 4095 (max (count - b) (b - count))) else none

/-- R36: a clear window with a usable count acts on the baseline, for a gate whose fault state is up to date. A present baseline
keeps its value while the coil fault flag is set; an absent one is gathered all the same (log 32). -/
def GateUnit.follow (g : GateUnit) (count : Nat) : GateUnit :=
  match g.baseline with
  | some b =>
    if g.coilFault then g
    else { g with baseline := some (if b < count then b + (count - b) / 8 else b - (b - count) / 8) }
  | none =>
    if g.tally + 1 = 8 then { g with tally := 8, baseSum := g.baseSum + count, baseline := some ((g.baseSum + count) / 8) }
    else { g with tally := g.tally + 1, baseSum := g.baseSum + count }

/-- R38: a deviation is gathered: the larger is kept. -/
def OpenRecord.gatherMetal (dev : Option Nat) (r : OpenRecord) : OpenRecord := { r with metal := largerMetal r.metal dev }

def Detection.gatherMetal (dev : Option Nat) (d : Detection) : Detection := { d with metal := largerMetal d.metal dev }

/-- R38: the finish: no metal while the coil fault flag is set. -/
def Detection.finished (fault : Bool) (d : Detection) : Detection := if fault then { d with metal := none } else d

/-- R34, R36: the next window opens. -/
def GateUnit.nextWindow (g : GateUnit) (windowMs : Nat) : GateUnit :=
  { g with windowCount := 0, windowClear := g.state == .idle, windowTimer := Timer.start windowMs }

/-- R34 to R38, R31: the close of a coil window. An opening step event that comes together with it makes the window not
clear (R36, log 22). The hand-overs take the sensor events it brings (R104, log 28). -/
def State.closeWindow (s : State) (close : WindowClose) : State :=
  let count := s.gate.windowCount
  let usable := s.cfg.usable count
  let g1 := s.gate.faultUpdate s.cfg.coilFloor count
  let dev := g1.deviation usable count
  let g2 := if g1.windowClear && !close.opening && usable then g1.follow count else g1
  let done := g2.completing.map (fun d => (d.gatherMetal dev).finished g2.coilFault)
  let g3 := { g2 with detection := g2.detection.map (OpenRecord.gatherMetal dev), completing := [] }
  (done.foldl State.handOver ((s.setGate (g3.nextWindow s.cfg.windowMs)).setBetween close.between)).setBetween []

end Sys2Proof.Machine
end

