-- ==== Sys2Proof/Machine/PositionOps.lean ====
section
/-! DEFINITION. The Position Unit: the divider, slot boundaries of every kind, the position condition, and the step event's
delivery (chapter 1). -/

namespace Sys2Proof.Machine

/-! ### The condition (R20, R166) -/

/-- R166: the own entry's tracking flag follows the condition. -/
def LoopTraffic.ownTracking (u : LoopTraffic) (address : Nat) (tracking : Bool) : LoopTraffic :=
  { u with peers := u.peers.map (fun p => if p.address = address then { p with tracking := tracking } else p) }

/-- R20: the change of the condition from `old` to the present one is announced; a change of the tracking or degraded flag
is a cause to send BINSTATE. -/
def State.announce (s : State) (old : Condition) : State :=
  let s1 := s.setLtu (s.ltu.ownTracking s.ctl.address s.pos.cond.tracking)
  if old.tracking = s.pos.cond.tracking ∧ old.degraded = s.pos.cond.degraded then s1 else s1.askBinstate

/-! ### The trim (R18, R19) -/

/-- R18: the sum is restarted at empty. -/
def PositionUnit.trimEmpty (p : PositionUnit) : PositionUnit := { p with trimSum := 0, trimCount := 0 }

/-- R19: the pending pair that a finished trim window of `sum` pulses gives, if it gives one. -/
def trimResult (cur : DividerPair) (sum : Nat) : Option DividerPair :=
  let r := (sum + 8) / 16
  if 64 ≤ r ∧ r ≤ 16383 ∧ r ≠ 64 * cur.n + cur.m then some ⟨r / 64, r % 64⟩ else none

/-- R18, R19: the closing slot is taken; the trim result, if any, is returned. -/
def PositionUnit.takeSlot (p : PositionUnit) : PositionUnit × Option DividerPair :=
  if p.trimCount + 1 = 16 then (p.trimEmpty, trimResult p.cur (p.trimSum + p.slotPulses))
  else ({ p with trimSum := p.trimSum + p.slotPulses, trimCount := p.trimCount + 1 }, none)

/-! ### Slot boundaries (R2, R6, R7, R9, R11 to R13, R15, R16) -/

/-- The kinds of slot boundary: marked (R6), synthesised for a missed mark (R7), FREE-RUN's (R9), FALLBACK's by a mark
(R15), and the one that returns FALLBACK to NORMAL (R16). -/
inductive BoundaryKind where
  | marked | missed | free | fallback | returning
  deriving DecidableEq, Repr

/-- R6 step 1: the steps elapsed in the closing slot. -/
def PositionUnit.elapsed (p : PositionUnit) : Nat := if p.step = 63 then 64 + p.overrun else p.step + 1

/-- R6 step 2: elapsed differs from 64 by 2 or more. -/
def PositionUnit.slips (p : PositionUnit) : Bool := decide (p.elapsed ≤ 62 ∨ 66 ≤ p.elapsed)

/-- R6, R16: the boundary is pitch-checked. -/
def BoundaryKind.checked (k : BoundaryKind) : Bool := k == .marked || k == .returning

/-- R7: the steps carried into the new slot. -/
def BoundaryKind.carry (k : BoundaryKind) (guard : Nat) : Nat := if k = .missed then guard - 1 else 0

/-- R6, R7: the pitch-slip flag and the missed-mark count after the boundary. -/
def PositionUnit.pitch (p : PositionUnit) (k : BoundaryKind) : PositionUnit :=
  if k = .missed then { p with slipFlag := true, missed := min 2 (p.missed + 1) }
  else if k.checked then
    if p.slips then { p with slipFlag := true } else { p with slipFlag := false, missed := 0 }
  else p

/-- R6, R7: the boundary's own count in the pitch-slip counter. -/
def PositionUnit.pitchCount (p : PositionUnit) (k : BoundaryKind) : Nat :=
  if k = .missed then 1 else if k.checked && p.slips then 1 else 0

/-- R11: the flag's outcome at the boundary. -/
inductive SeamOutcome where
  | none | sync | agrees | slip
  deriving DecidableEq, Repr

def PositionUnit.seam (p : PositionUnit) (slots : Nat) : SeamOutcome :=
  if p.seamFlag then
    if p.cond = .unsynced then .sync
    else if p.slot + 1 = slots then .agrees
    else .slip
  else .none

/-- R11, R12: the slot count is forced to 0 and the step event carries a discontinuity mark. -/
def SeamOutcome.discontinuous (o : SeamOutcome) : Bool := o == .sync || o == .slip

/-- R7, R11, R16: the condition after the boundary; `missed` is the missed-mark count after it. R12 has a seam slip change no
condition; where the boundary of a slip is also the second missed mark or closes a qualification, R7 or R16 changes it all the
same: DESIGN CHOICE (log 39), unsafe. -/
def conditionAfter (k : BoundaryKind) (o : SeamOutcome) (missed : Nat) (c : Condition) : Condition :=
  if o = .sync then .normal
  else if k = .returning then .normal
  else if k = .missed ∧ c = .normal ∧ 2 ≤ missed then .freeRun
  else c

/-- R12, R18: the sum at a seam slip of a marked boundary, whose slot is not taken. R12 lets the sum stand and R18 restarts it at
empty; the spec does not say which holds, so a free value decides: DESIGN CHOICE (log 27), safe. -/
def PositionUnit.trimAtSlip (p : PositionUnit) : PositionUnit :=
  { p with
    trimSum := if Config.seamSlipKeepsTrim then p.trimSum else 0
    trimCount := if Config.seamSlipKeepsTrim then p.trimCount else 0 }

/-- R18: the boundary's work on the trim, with the pending pair it makes. A slot is taken when marked boundaries in NORMAL
open and close it; a boundary that is not a marked one in NORMAL restarts the sum (log 16). -/
def PositionUnit.trim (p : PositionUnit) (k : BoundaryKind) (o : SeamOutcome) : PositionUnit × Option DividerPair :=
  let counts := k == .marked && p.cond == .normal
  let r :=
    if counts then
      if o = .slip then (p.trimAtSlip, none)
      else if p.trimOpen then p.takeSlot
      else (p, none)
    else (p.trimEmpty, none)
  ({ r.1 with trimOpen := counts }, r.2)

/-- R2: a present pending pair is loaded; one made at this boundary waits. -/
def PositionUnit.load (p : PositionUnit) (made : Option DividerPair) : PositionUnit :=
  { p with cur := p.pend.getD p.cur, pend := made }

/-- R13: the slot period is measured. DESIGN CHOICE, unsafe (log 42): the time is rounded down to whole microseconds. -/
def PositionUnit.measure (p : PositionUnit) : PositionUnit :=
  { p with
    period := match p.sinceBoundary with
      | some t => some (min (t / 1000) Config.periodMax)
      | none => p.period
    sinceBoundary := some 0 }

/-- R11: what synchronisation clears, with the watchdog's restart. -/
def PositionUnit.synchronise (p : PositionUnit) (o : SeamOutcome) (watchdog : Timer) : PositionUnit :=
  if o = .sync then { p with missed := 0, good := 0, watchdog := watchdog } else p

/-- R15: the interval of FALLBACK, timed afresh: it runs while a period is present and the step-in-slot is below 63. -/
def PositionUnit.restartInterval (p : PositionUnit) : PositionUnit :=
  { p with stepTimer :=
      if p.cond = .fallback ∧ p.step < 63 then p.period.map (fun t => t / 64 * 1000) else none }

/-- R1, R6, R7, R9: the counts of the new slot. -/
def PositionUnit.newSlot (p : PositionUnit) (slot carry : Nat) : PositionUnit :=
  { p with slot := slot, step := carry, overrun := 0, acc := 0, slotPulses := 0, seamFlag := false }

/-- R14: the watchdog just restarted; it runs only while the belt-run line is on (R17). -/
def State.watchdogStart (s : State) : Timer := if s.pins.beltRun then Timer.start s.cfg.encoderMs else none

/-- The Position Unit after a boundary of kind `k`. The slot period is measured before the boundary's step event is issued, so a
fire at that event reads the new period's speed: DESIGN CHOICE (log 35), unsafe. -/
def PositionUnit.atBoundary (p : PositionUnit) (c : Settings) (watchdog : Timer) (k : BoundaryKind) : PositionUnit :=
  let o := p.seam c.slots
  let p1 := p.pitch k
  let t := p1.trim k o
  let p2 := (t.1.load t.2).measure
  let p3 := p2.newSlot (if o.discontinuous then 0 else (p.slot + 1) % c.slots) (k.carry c.guard)
  let p4 := { p3 with
    cond := conditionAfter k o p1.missed p.cond
    synthesised := k == BoundaryKind.missed || k == BoundaryKind.free
    qual := if k = BoundaryKind.returning then none else p3.qual }
  (p4.synchronise o watchdog).restartInterval

/-- R4, R6, R7: the boundary's step event. -/
def PositionUnit.boundaryEvent (p : PositionUnit) (c : Settings) (k : BoundaryKind) : StepEvent :=
  let o := p.seam c.slots
  { pos := 64 * (if o.discontinuous then 0 else (p.slot + 1) % c.slots) + k.carry c.guard
    adv := if o.discontinuous then none else some (64 - p.step + k.carry c.guard)
    seamSlip := o == .slip }

/-- R2: the pair and the nominal pair beside it are written when the current pair changes. -/
def State.keepPair (s : State) (loaded : Bool) : State :=
  if loaded then s.setRetention { s.retention with pair := s.pos.cur, nominal := s.cfg.nominal } else s

/-- A boundary of kind `k`: the Position Unit, its counts, retention memory and the announcement, before the step event. -/
def State.boundary (s : State) (k : BoundaryKind) : State :=
  let p := s.pos
  let s1 := (s.setPos (p.atBoundary s.cfg s.watchdogStart k)).keepPair p.pend.isSome
  let n := p.pitchCount k + (if p.seam s.cfg.slots = .slip then 1 else 0)
  (s1.countMany .pitchSlips n).announce p.cond

/-! ### The step event (R4) -/

/-- One receiving block's work at a step event. -/
def State.runPart (ev : StepEvent) (s : State) (part : StepPart) : State :=
  match part with
  | .gate => s.gateStep ev
  | .fire => s.fires ev
  | .verify => s.verifies ev
  | .track => s.trackStep ev

/-- R4: the step event reaches the receiving blocks in the order the command gives (log 4), each with its one sample.
The reservation requests of the event take the sensor events it brings (R104, log 28). -/
def State.stepEvent (s : State) (smp : Samples) (ev : StepEvent) : State :=
  (smp.order.foldl (State.runPart ev) ((s.sample smp).setBetween smp.between)).settleWatches.setBetween []

/-- A boundary with its step event. -/
def State.boundaryWithEvent (s : State) (smp : Samples) (k : BoundaryKind) : State :=
  (s.boundary k).stepEvent smp (s.pos.boundaryEvent s.cfg k)

/-- R3, R15: a step with an advance of 1. -/
def State.stepOn (s : State) (smp : Samples) : State :=
  let s1 := s.setPos { s.pos with step := s.pos.step + 1 }
  s1.stepEvent smp { pos := s1.pos.gatePos, adv := some 1, seamSlip := false }

/-! ### Raw pulses (R1, R3, R7, R9, R16) -/

/-- R1: the number of the step in progress; none for an overrun step. In a qualification the divider numbers its own steps
(log 12). -/
def PositionUnit.stepNumber (p : PositionUnit) : Option Nat :=
  match p.cond, p.qual with
  | .fallback, some c => if c < 64 then some c else none
  | _, _ => if p.overrun = 0 then some p.step else none

/-- R1: the length of the step in progress, in raw pulses. -/
def PositionUnit.stepLength (p : PositionUnit) : Nat :=
  match p.stepNumber with
  | some j => if j < p.cur.m then p.cur.n + 1 else p.cur.n
  | none => p.cur.n

/-- R1, R14, R16: the pulse is counted, and restarts the watchdog. -/
def PositionUnit.countPulse (p : PositionUnit) (watchdog : Timer) : PositionUnit :=
  { p with
    acc := p.acc + 1
    slotPulses := min 65535 (p.slotPulses + 1)
    pulseSeen := p.pulseSeen || p.cond == .fallback
    watchdog := watchdog }

/-- R3: a completed step. -/
def State.stepComplete (s : State) (smp : Samples) : State :=
  let p := s.pos
  if p.cond = .fallback then s.setPos { p with qual := p.qual.map (fun c => min 255 (c + 1)) }
  else if p.step < 63 then s.stepOn smp
  else if p.cond = .freeRun then s.boundaryWithEvent smp .free
  else
    let s1 := s.setPos { p with overrun := p.overrun + 1 }
    if s.cfg.guard ≤ p.overrun + 1 then s1.boundaryWithEvent smp .missed else s1

/-- R1: a raw pulse. -/
def State.pulse (s : State) (smp : Samples) : State :=
  let p := s.pos.countPulse s.watchdogStart
  if p.stepLength ≤ p.acc then (s.setPos { p with acc := 0 }).stepComplete smp else s.setPos p

/-! ### Marks (R6, R8 to R10, R15, R16) -/

/-- R8: the mark is the late mark of a synthesised boundary. -/
def PositionUnit.late (p : PositionUnit) (guard : Nat) : Bool := p.synthesised && decide (p.step < guard)

/-- R9: the mark is in tolerance: its offset is -1, 0 or +1. -/
def PositionUnit.inTolerance (p : PositionUnit) : Bool := decide (p.step ≤ 1 ∨ p.step = 63)

/-- R9, R10: a mark in FREE-RUN. -/
def State.freeRunMark (s : State) : State :=
  let p := s.pos
  if p.inTolerance then
    if p.good + 1 = 4 then
      (s.setPos { p.trimEmpty with cond := .normal, good := 0, missed := 0, trimOpen := false }).announce .freeRun
    else s.setPos { p with good := p.good + 1 }
  else s.setPos { p with good := 0 }

/-- R16: the encoder elapsed count of `c` completed steps. -/
def encoderElapsed (c : Nat) : Nat := min 255 (c + 1)

/-- R15, R16: a mark in FALLBACK. -/
def State.fallbackMark (s : State) (smp : Samples) : State :=
  match s.pos.qual with
  | some c =>
    if 63 ≤ encoderElapsed c ∧ encoderElapsed c ≤ 65 then s.boundaryWithEvent smp .returning
    else (s.setPos { s.pos with qual := some 0 }).boundaryWithEvent smp .fallback
  | none =>
    if s.pos.pulseSeen && s.pos.watchdog.isSome then
      (s.setPos { s.pos with qual := some 0 }).boundaryWithEvent smp .fallback
    else s.boundaryWithEvent smp .fallback

/-- R6, R8, R9, R15: a slat mark, by the condition. -/
def State.mark (s : State) (smp : Samples) : State :=
  match s.pos.cond with
  | .freeRun => s.freeRunMark
  | .fallback => s.fallbackMark smp
  | .normal =>
    if s.pos.late s.cfg.guard then s.setPos { s.pos with missed := 0 } else s.boundaryWithEvent smp .marked
  | .unsynced =>
    if s.pos.late s.cfg.guard then s.setPos { s.pos with missed := 0 } else s.boundaryWithEvent smp .marked

/-! ### FALLBACK (R14, R15) -/

/-- R14: the entry to FALLBACK. -/
def PositionUnit.enterFallback (p : PositionUnit) : PositionUnit :=
  ({ p.trimEmpty with
    cond := .fallback, trimOpen := false, missed := 0, good := 0, overrun := 0, acc := 0, qual := none,
    pulseSeen := false } : PositionUnit).restartInterval

/-- R16: the qualification in progress is abandoned; a new one waits for pulses to return (log 13). -/
def PositionUnit.abandonQualification (p : PositionUnit) : PositionUnit :=
  if p.qual.isSome then { p with qual := none, pulseSeen := false } else p

/-- R14: the watchdog's expiry. -/
def State.watchdogExpiry (s : State) : State :=
  let p := { s.pos with watchdog := none }
  match p.cond with
  | .unsynced => s.setPos p
  | .fallback => s.setPos p.abandonQualification
  | .normal => (s.setPos p.enterFallback).announce .normal
  | .freeRun => (s.setPos p.enterFallback).announce .freeRun

/-- R15: a synthesised step; the interval then runs on to the next. -/
def State.synthesisedStep (s : State) (smp : Samples) : State :=
  let s1 := s.setPos ({ s.pos with step := s.pos.step + 1 } : PositionUnit).restartInterval
  s1.stepEvent smp { pos := s1.pos.gatePos, adv := some 1, seamSlip := false }

end Sys2Proof.Machine
end

