-- ==== Sys2Proof/Machine/ModeOps.lean ====
section
/-! DEFINITION. The Mode Controller: START and its checks, the run notice, HALTED, SERVICE and SAFE, and the end of every
event (chapter 10). -/

namespace Sys2Proof.Machine

/-! ### Start (R175 to R180) -/

/-- R180: HALTED with a code. -/
def State.halt (s : State) (code : Nat) : State :=
  s.setCtl { s.ctl with mode := .halted, phase := .ended, haltCode := code, retryTimer := none }

/-- R176: an attempt failure. -/
def State.attemptFailed (s : State) : State :=
  let s1 := s.setCtl { s.ctl with failures := s.ctl.failures + 1 }
  if 3 ≤ s.ctl.failures + 1 then s1.halt 1
  else s1.setCtl { s1.ctl with phase := .waiting, retryTimer := Timer.start Config.retryMs }

/-- R22: the pair is in the range of a configured pair. -/
def DividerPair.usable (p : DividerPair) : Bool := decide (1 ≤ p.n ∧ p.n ≤ 255 ∧ p.m ≤ 63)

/-- R22: the divider pair taken at the entry to RUN. -/
def startPair (m : Retention) (nominal : DividerPair) : DividerPair :=
  if m.nominal = nominal ∧ m.pair.usable = true then m.pair else nominal

/-- R49, R51: the class table and digest of an image are in force. -/
def State.takeTable (s : State) (image : List Byte) : State :=
  s.setClassifier ⟨rulesOf image, some (digestOf image)⟩

/-- R179: the Mode Controller at the run notice. -/
def ModeController.toRun (m : ModeController) (p : Pins) : ModeController :=
  { m with mode := .run, phase := .ended, keyTurned := p.keyTurned, keyTimer := none, chainClosed := p.chainClosed,
           chainTimer := none, clock := 0, clockPart := 0, clockRunning := true,
           statusTimer := Timer.start Config.statusMs }

/-- R21, R39: the Position Unit and the Gate Unit at the run notice. -/
def State.startPosition (s : State) : State :=
  s.setPos { PositionUnit.reset with cur := startPair s.retention s.cfg.nominal, watchdog := s.watchdogStart }

def State.startGate (s : State) : State :=
  s.setGate { GateUnit.reset with state := .idle, windowClear := true, windowTimer := Timer.start s.cfg.windowMs }

/-- R137: a configured ejector whose fitted arm-home feedback does not show home enters FAULT. -/
def State.startEjector (s : State) (b : BinNo) : State :=
  if (s.binCfg b).homeFitted && !s.pins.armHome.get b then s.enterFault b else s

/-- R166: the own entry is created. -/
def State.createOwnEntry (s : State) : State :=
  s.setLtu { s.ltu with
    peers := [⟨s.ctl.address, s.cfg.gateDist, s.classifier.digest.getD 0, true, false, 0⟩] }

/-! ### SERVICE and SAFE (R183 to R185) -/

def State.setMode (s : State) (m : Mode) : State := s.setCtl { s.ctl with mode := m }

/-- R183: the entry to SERVICE from RUN. -/
def State.enterService (s : State) : State :=
  ((((s.cancelAll .service).cutAll).enterVisit).setMode .service).askBinstate

/-- R183: the exit from SERVICE to RUN. -/
def State.leaveService (s : State) : State :=
  (allBins.foldl State.clearFault (s.setMode .run).leaveVisit).askBinstate

/-- R184, R126: the chain opens in RUN or SERVICE: pulses are cut, and from RUN every schedule is cancelled. -/
def State.enterSafe (s : State) : State :=
  let s1 := s.cutAll
  let s2 := if s.ctl.mode = .run then s1.cancelAll .safety else s1
  (s2.setCtl { s2.ctl with mode := .safe, heldMode := some s.ctl.mode, chainClosed := false, chainTimer := none }).askBinstate

/-- R185: the exit from SAFE. -/
def State.leaveSafe (s : State) : State :=
  (s.setCtl { s.ctl with mode := s.ctl.heldMode.getD .run, heldMode := none, chainClosed := true, chainTimer := none }).askBinstate

/-! ### The run notice (R179) -/

/-- R179: every check of `image` has passed. -/
def State.runNotice (s : State) (image : List Byte) : State :=
  let s1 := ((s.setCfg (settingsOf image)).takeTable image).setCtl (s.ctl.toRun s.pins)
  let s2 := s1.startPosition.startGate.createOwnEntry
  let s3 := s2.cfg.configuredBins.foldl State.startEjector s2
  let s4 := s3.join.startBins
  if s4.pins.chainClosed then s4 else s4.enterSafe

/-- R177: the checks of a complete read. A table that has passed its checks stays when a later check fails (R51). -/
def State.readDone (s : State) (image : List Byte) : State :=
  let s1 := s.setCtl { s.ctl with image := image }
  match checkImage image with
  | none => s1.runNotice image
  | some code => if 4 ≤ code then (s1.takeTable image).halt code else s1.halt code

/-! ### The address clash (R181) -/

/-- R181: the Bin Unit at the halt. -/
def BinUnit.halted (u : BinUnit) : BinUnit :=
  { u with
    recs := u.recs.map (fun r => { r with pending := 0, faultShown := false })
    present := u.present.map (fun x => { x with timer := none })
    full := u.full.map (fun x => { x with timer := none })
    snapshot := none, periodTimer := none, asked := false }

/-- R181: the Gate Unit at the halt. -/
def GateUnit.halted (g : GateUnit) : GateUnit :=
  { g with state := .held, detection := none, completing := [], windowTimer := none }

/-- R181: the Mode Controller at the halt. -/
def ModeController.clashed (m : ModeController) : ModeController :=
  { m with mode := .halted, haltCode := 6, heldMode := none, clockRunning := false, statusTimer := none, keyTimer := none,
           chainTimer := none }

/-- R181: an address clash halts the station with code 6. -/
def State.clash (s : State) : State :=
  let s1 := s.haltLink
  { s1 with
    ej := Quad.all Ejector.reset
    trk := TrackingUnit.reset s.retention.serial
    bins := s1.bins.halted
    gate := s1.gate.halted
    ctl := s1.ctl.clashed }

/-! ### The end of an event -/

/-- R111: a BINSTATE asked for in the event is built and queued now (log 5). -/
def State.answerAsked (s : State) : State :=
  if s.bins.asked then
    if s.running then s.requestBinstate else s.setBins { s.bins with asked := false }
  else s

/-- R190: a lamp pattern that changes begins with its on phase. -/
def State.showLamp (s : State) : State :=
  if s.lampPattern = s.ctl.lamp then s else s.setCtl { s.ctl with lamp := s.lampPattern, lampTime := 0 }

/-- What closes every event. -/
def State.finish (s : State) : State := s.answerAsked.showLamp

/-- The state after a command that brings `dt` and then has the effect `f` (log 1). -/
def State.after (s : State) (dt : Nat) (f : State → State) : State := (f (s.elapse dt)).finish

end Sys2Proof.Machine
end

