-- ==== Sys2Proof/Machine/LoopOps.lean ====
section
/-! DEFINITION. The receiver cell by cell (R138 to R143), and what the Loop Traffic Unit does with an accepted frame (R155 to
R170). -/

namespace Sys2Proof.Machine

/-! ### Peers (R165 to R168) -/

/-- R166: the order of the peer table. -/
def PeerEntry.before (a b : PeerEntry) : Bool :=
  decide (a.gateDist < b.gateDist ∨ (a.gateDist = b.gateDist ∧ a.address < b.address))

/-- R166: an entry's place in the peer table. -/
def insertPeer (x : PeerEntry) : List PeerEntry → List PeerEntry
  | [] => [x]
  | y :: rest => if x.before y then x :: y :: rest else y :: insertPeer x rest

def State.setPeers (s : State) (l : List PeerEntry) : State := s.setLtu { s.ltu with peers := l }

/-- R168: a peer is removed, with its Fill Board entries; the own entry never is. -/
def State.removePeer (s : State) (address : Nat) : State :=
  if address = s.ctl.address ∨ (s.peer address).isNone = true then s
  else (s.setPeers (s.ltu.peers.filter (fun p => p.address != address))).forgetBoard address

/-- R155: the origin of a heard frame. -/
def State.hear (s : State) (origin : Nat) : State :=
  s.setPeers (s.ltu.peers.map (fun p => if p.address = origin then { p with lastHeard := s.ctl.clock } else p))

/-- R167: a peer's tracking flag, from a BINSTATE that was taken. -/
def State.setPeerTracking (s : State) (address : Nat) (tracking : Bool) : State :=
  s.setLtu (s.ltu.ownTracking address tracking)

/-- R165: the entry that a taken ROLL makes. -/
def State.rollEntry (s : State) (origin : Nat) (r : RollContent) : PeerEntry :=
  { address := origin, gateDist := r.gateDist, digest := r.digest, digestEqual := some r.digest == s.classifier.digest,
    tracking := ((s.peer origin).map (fun p => p.tracking)).getD false, lastHeard := s.ctl.clock }

/-- R164: an answer ROLL, unless the link or a ROLL already waiting forbids it. -/
def State.answerRoll (s : State) : State :=
  if (s.port.link = .joining ∨ s.port.link = .joined) ∧ s.ltu.holds Config.kindRoll = false then
    s.enqueueOwn (s.rollFrame false)
  else s

/-- R165: a ROLL consumed with destination 0. -/
def State.takeRoll (s : State) (origin : Nat) (payload : List Byte) : State :=
  let r := decodeRoll payload
  if r.takeable then
    let s1 := s.setPeers (insertPeer (s.rollEntry origin r) (s.ltu.peers.filter (fun p => p.address != origin)))
    if r.newFlag then s1.answerRoll else s1
  else s.count .lineDrops

/-- R170: a recall, for a BINSTATE or STATUS from an unknown origin. -/
def State.startRecall (s : State) : State :=
  if s.port.link = .joined ∧ s.ltu.recallTimer = none then
    let s1 := s.enqueueOwn (s.rollFrame true)
    s1.setLtu { s1.ltu with recallTimer := Timer.start Config.recallMs }
  else s

/-- R115, R167, R170: a BINSTATE consumed with destination 0. -/
def State.binstateArrival (s : State) (origin : Nat) (payload : List Byte) : State :=
  if (s.peer origin).isNone then s.startRecall
  else if binstateOk payload then
    (s.takeBinstate origin payload).setPeerTracking origin (decodeHeader payload).tracking
  else s.count .lineDrops

/-! ### Dispatch (R155 to R161) -/

/-- R158, R159: a returned ticket: its addressee is removed, and it is re-sent once or discarded. -/
def State.undelivered (s : State) (f : Frame) : State :=
  let s1 := s.removePeer f.dest
  match readdressed f.payload, s1.nextPeer with
  | false, some p => s1.enqueueOwn (s1.buildFrame Config.kindTicket p.address (setReaddressed f.payload))
  | _, _ => s1.count .queueDrops

/-- R157: this station's ROLL has come home, or another station's in its name. -/
def State.strippedRoll (s : State) (payload : List Byte) : State :=
  if (decodeRoll payload).sameFixed (s.ownRoll false) then s.ownRollReturned else s.clash

/-- R156 case 1. -/
def State.strip (s : State) (f : Frame) : State :=
  if f.kind = Config.kindRoll then s.strippedRoll f.payload
  else if f.kind = Config.kindTicket then s.undelivered f
  else s

/-- R160: a frame consumed with this station's address. -/
def State.consumeOwn (s : State) (f : Frame) : State :=
  if f.kind = Config.kindTicket then s.ticketArrival f.origin f.payload else s.count .lineDrops

/-- R160: a frame consumed with destination 0. -/
def State.consumeAll (s : State) (f : Frame) : State :=
  if f.kind = Config.kindRoll then s.takeRoll f.origin f.payload
  else if f.kind = Config.kindBinstate then s.binstateArrival f.origin f.payload
  else if f.kind = Config.kindStatus then
    if (s.peer f.origin).isNone then s.startRecall else s
  else s

/-- R156: dispatch. DESIGN CHOICE, unsafe (log 30): a ROLL that a broadcast made this station build is offered to a FREE
transmitter before the broadcast's own repeat has joined the transit queue. -/
def State.dispatch (s : State) (f : Frame) : State :=
  if f.origin = s.ctl.address then s.strip f
  else if f.dest = s.ctl.address then s.consumeOwn f
  else if f.dest = 0 then (s.consumeAll f).repeatFrame f
  else s.repeatFrame f

/-- R155: the header check. -/
def Frame.headerOk (f : Frame) : Bool :=
  decide (1 ≤ f.origin ∧ f.origin ≤ 16) && decide (f.dest ≤ 16) && lengthAllowed f.kind f.payload.length

/-- R155: an accepted frame is handed to the Loop Traffic Unit. -/
def State.frameArrival (s : State) (f : Frame) : State :=
  if f.headerOk then (s.hear f.origin).dispatch f else s.count .lineDrops

/-! ### The receiver (R138 to R143, R150, R151) -/

/-- The line-drop counter, which does not rise while the link is BYPASSED (R143). -/
def State.lineDrop (s : State) : State := if s.port.link = .bypassed then s else s.count .lineDrops

/-- R138: a VIOLATION has been read and its pair is not yet complete. Marks are not read in LOSS (R140). -/
def LoopPort.pairOpen (p : LoopPort) : Bool := p.rx != .loss && p.violationRun == 1

/-- R138: the violation run and the silence time at a cell. -/
def LoopPort.note (p : LoopPort) (c : CellClass) : LoopPort :=
  { p with
    violationRun := if c = .violation then min 3 (p.violationRun + 1) else 0
    silence := if c = .empty then p.silence else 0 }

/-- The receiver goes to `rx` with an empty buffer, the idle run becoming 0. -/
def State.receiverTo (s : State) (rx : RxState) : State :=
  s.setPort { s.port with rx := rx, buffer := [], bits := [], idleRun := 0 }

/-- R142: a frame that is open is discarded and counted; the state becomes `rx`. -/
def State.discardTo (s : State) (rx : RxState) : State :=
  if s.port.rx = .frame then (s.receiverTo rx).lineDrop else s.receiverTo rx

/-- R140, R150: the receiver enters LOSS. -/
def State.enterLoss (s : State) : State :=
  let s1 := s.discardTo .loss
  s1.setPort { s1.port with lossTimer := lossTimerFor .loss s1.port.link s1.port.lossTimer }

/-- R138, R141, R151: a ONE outside a frame. The cell that brings the idle run to 32 ends LOSS, and returns a SEVERED link
to JOINING. -/
def State.idleOne (s : State) : State :=
  if s.port.idleRun = 31 then
    let s1 := s.setPort { s.port with idleRun := 32, rx := .idle, lossTimer := none }
    if s1.port.link = .severed then s1.join else s1
  else s.setPort { s.port with idleRun := min 32 (s.port.idleRun + 1) }

/-- The idle run becomes 0. -/
def State.idleZero (s : State) : State := s.setPort { s.port with idleRun := 0 }

/-- R142: the byte of eight bits, the first the lowest. -/
def byteOfBits : List Bool → Nat
  | [] => 0
  | b :: rest => (if b then 1 else 0) + 2 * byteOfBits rest

/-- R142: a data cell in FRAME. -/
def State.gatherBit (s : State) (b : Bool) : State :=
  let bits := s.port.bits ++ [b]
  if bits.length < 8 then s.setPort { s.port with bits := bits, idleRun := 0 }
  else if Config.bufferMax ≤ s.port.buffer.length then s.discardTo .idle
  else s.setPort { s.port with bits := [], buffer := s.port.buffer ++ [byteOf (byteOfBits bits)], idleRun := 0 }

/-- R143: the checks of a closed frame's bytes. -/
def accepted (bs : List Byte) : Bool :=
  decide (7 ≤ bs.length) && byteAt bs 4 + 7 == bs.length &&
    (crc16 bs.dropLast.dropLast).toNat == wordAt bs (bs.length - 2)

/-- R143: a close mark in FRAME. -/
def State.closeFrame (s : State) : State :=
  let bs := s.port.buffer
  let s1 := s.receiverTo .idle
  if accepted bs then
    if s1.port.link = .bypassed then s1 else s1.frameArrival (frameOfBytes bs)
  else s1.lineDrop

/-- R139, R141, R142: the second cell of a pair. -/
def State.pairCell (s : State) (c : CellClass) : State :=
  match s.port.rx, c with
  | .frame, .one => s.closeFrame
  | .idle, .one => s.idleOne
  | .loss, .one => s.idleOne
  | _, .zero => s.discardTo .frame
  | _, .violation => s.discardTo .idle
  | _, .empty => s.discardTo .idle

/-- R140 to R142: a cell that no pair holds. -/
def State.plainCell (s : State) (c : CellClass) : State :=
  match s.port.rx, c with
  | .loss, .one => s.idleOne
  | .idle, .one => s.idleOne
  | .frame, .one => s.gatherBit true
  | .frame, .zero => s.gatherBit false
  | .frame, .empty => s.discardTo .idle
  | .frame, .violation => if s.port.bits = [] then s.idleZero else s.discardTo .idle
  | .loss, .zero => s.idleZero
  | .loss, .violation => s.idleZero
  | .loss, .empty => s.idleZero
  | .idle, .zero => s.idleZero
  | .idle, .violation => s.idleZero
  | .idle, .empty => s.idleZero

/-- R138 to R142: one received cell. -/
def State.receiveCell (s : State) (c : CellClass) : State :=
  let s1 := s.setPort (s.port.note c)
  if s1.port.violationRun = 3 ∧ s1.port.rx ≠ .loss then s1.enterLoss
  else if s.port.pairOpen then s1.pairCell c
  else s1.plainCell c

/-- R138, R139: the time of a cell that comes within one command with the cell before it. -/
def State.cellTimePasses (s : State) : State :=
  s.setPort { s.port with silence := min (s.port.silence + Config.cellNs) (Config.silenceCells * Config.cellNs) }

/-- R139: a mark, or a lone violation: its VIOLATION, unless that has come already as a cell (log 10), and its second
cell, a cell time after it: the EMPTY cell of a lone violation counts toward the silence time. -/
def State.receivePair (s : State) (second : CellClass) : State :=
  (if s.port.pairOpen then s else (s.receiveCell .violation).cellTimePasses).receiveCell second

end Sys2Proof.Machine
end

