-- ==== Sys2Proof/Machine/Starting.lean ====
section
/-! DEFINITION. The commands of the two resets and of START (R173 to R179). A command that arrives where its rule does not
take it has no effect but the time that passes (log 24). -/

namespace Sys2Proof.Machine

/-- What a command answers. -/
abbrev Result := Host.Outcome State Fault Refusal

/-- R173, R174: power-on reset. -/
def execPowerOnReset (dt : Nat) (s : State) : Result := .next (s.after dt (fun s => s.afterReset Retention.cleared))

/-- R173, R174: external reset. -/
def execExternalReset (dt : Nat) (s : State) : Result := .next (s.after dt (fun s => s.afterReset s.retention))

/-- R175: START begins: the straps are latched, and the read begins. -/
def State.beginStart (straps : BitVec 4) (s : State) : State :=
  if s.ctl.mode = .start ∧ s.ctl.phase = .inReset then
    (s.setPins { s.pins with straps := straps }).setCtl
      { s.ctl with phase := .reading, address := straps.toNat + 1, failures := 0 }
  else s

def execStart (dt : Nat) (straps : BitVec 4) (s : State) : Result := .next (s.after dt (State.beginStart straps))

/-- The station is reading its memory. -/
def State.reading (s : State) : Bool := s.ctl.mode == .start && s.ctl.phase == .reading

/-- R176: the memory does not acknowledge. -/
def State.failAttempt (s : State) : State := if s.reading then s.attemptFailed else s

def execAttemptFailure (dt : Nat) (s : State) : Result := .next (s.after dt State.failAttempt)

/-- R176: the 10 ms wait has ended. -/
def State.retryRead (s : State) : State :=
  if s.ctl.mode = .start ∧ s.ctl.phase = .waiting ∧ Timer.due s.ctl.retryTimer = true then
    s.setCtl { s.ctl with phase := .reading, retryTimer := none }
  else s

def execConfigReadRetry (dt : Nat) (s : State) : Result := .next (s.after dt State.retryRead)

/-- R176, R193: the bytes that the length byte names; absent where the memory does not give them all, or the length is 0. -/
def recordOf (memory : List Byte) : Option (List Byte) :=
  match memory with
  | [] => none
  | len :: _ => if len = 0 ∨ memory.length < len.toNat then none else some (memory.take len.toNat)

/-- R177 to R180: the read is complete and the checks run; the arm-home levels are those of the moment (R137). -/
def State.completeRead (memory : List Byte) (armHome : Quad Bool) (s : State) : State :=
  if s.reading then
    let s1 := s.setPins { s.pins with armHome := armHome }
    match recordOf memory with
    | some image => s1.readDone image
    | none => s1.attemptFailed
  else s

def execConfigReadComplete (dt : Nat) (memory : List Byte) (armHome : Quad Bool) (s : State) : Result :=
  .next (s.after dt (State.completeRead memory armHome))

end Sys2Proof.Machine
end

