-- ==== Sys2Proof/Machine/Belt.lean ====
section
/-! DEFINITION. The commands of the encoder, the slat marker, the seam sensor and the belt-run line (chapter 1). -/

namespace Sys2Proof.Machine

/-- R1: a raw pulse, in a running mode. -/
def State.rawPulse (smp : Samples) (s : State) : State := if s.running then s.pulse smp else s

def execRawPulse (dt : Nat) (smp : Samples) (s : State) : Result := .next (s.after dt (State.rawPulse smp))

/-- R6: a slat mark, in a running mode. -/
def State.slatMark (smp : Samples) (s : State) : State := if s.running then s.mark smp else s

def execSlatMark (dt : Nat) (smp : Samples) (s : State) : Result := .next (s.after dt (State.slatMark smp))

/-- R11: the seam flag is set. -/
def State.seamReport (s : State) : State := if s.running then s.setPos { s.pos with seamFlag := true } else s

def execSeamReport (dt : Nat) (s : State) : Result := .next (s.after dt State.seamReport)

/-- R14: the timer has run out with the belt-run line on. -/
def State.watchdogEnds (s : State) : State :=
  if s.running && s.pins.beltRun && Timer.due s.pos.watchdog then s.watchdogExpiry else s

def execEncoderWatchdogExpiry (dt : Nat) (s : State) : Result := .next (s.after dt State.watchdogEnds)

/-- R15: the step interval has ended. -/
def State.fallbackStep (smp : Samples) (s : State) : State :=
  if s.running && s.pos.cond == .fallback && s.pins.beltRun && decide (s.pos.step < 63) && Timer.due s.pos.stepTimer then
    s.synthesisedStep smp
  else s

def execFallbackStep (dt : Nat) (smp : Samples) (s : State) : Result := .next (s.after dt (State.fallbackStep smp))

/-- R14, R17: the belt-run line changes; the watchdog stops with it, and starts afresh. -/
def State.beltRun (on : Bool) (s : State) : State :=
  if on = s.pins.beltRun then s
  else
    let s1 := s.setPins { s.pins with beltRun := on }
    if s1.running then s1.setPos { s1.pos with watchdog := s1.watchdogStart } else s1

def execBeltRunChange (dt : Nat) (on : Bool) (s : State) : Result := .next (s.after dt (State.beltRun on))

end Sys2Proof.Machine
end

