-- ==== Sys2Proof/Machine/Bins.lean ====
section
/-! DEFINITION. The commands of the bin sensors and of the BINSTATE period timer (chapter 6). -/

namespace Sys2Proof.Machine

/-- R97: a bin sensor changes level, and its settle time starts again; a return to the settled level ends it. -/
def State.binSensorChange (b : BinNo) (k : BinSensor) (level : Bool) (s : State) : State :=
  if level = s.pins.binSensor b k then s
  else
    let s1 := s.setPins (s.pins.setBinSensor b k level)
    if s1.running && s1.reads b k then
      let x := s1.bins.sensor b k
      s1.setBins (s1.bins.setSensor b k
        { x with timer := if level = x.settled then none else Timer.start (settleMs k) })
    else s1

def execBinSensorChange (dt : Nat) (b : BinNo) (sensor : BinSensor) (level : Bool) (s : State) : Result :=
  .next (s.after dt (State.binSensorChange b sensor level))

/-- R98, R107: a bin is put in its place. -/
def State.insertBin (b : BinNo) (s : State) : State :=
  let r := s.bins.recs.get b
  if r.state = .absent then
    if s.bins.snapshot.isSome then
      (s.setBin b { r with fill := 0, unverified := false, state := .held }).setSlot b ⟨.opened, .fresh⟩
    else s.setBin b { r with fill := 0, unverified := false, state := if s.fullActive b then .full else .opened }
  else s

/-- R97, R98: a settled bin-present rise. -/
def State.insertion (b : BinNo) (s : State) : State :=
  if s.settled b .present true then (s.takeSensor b .present true).insertBin b else s

def execInsertion (dt : Nat) (b : BinNo) (s : State) : Result := .next (s.after dt (State.insertion b))

/-- R97, R103: a settled bin-present fall. -/
def execRemoval (dt : Nat) (b : BinNo) (s : State) : Result := .next (s.after dt (State.removal b))

/-- R97, R100: a settled full-sensor rise. -/
def execFullSensorRise (dt : Nat) (b : BinNo) (s : State) : Result := .next (s.after dt (State.fullSensorRise b))

/-- R100: a FULL bin below capacity becomes OPEN or NEAR. -/
def State.fillDown (b : BinNo) (s : State) : State :=
  let r := s.bins.recs.get b
  if r.state = .full ∧ r.fill < (s.binCfg b).capacity then s.setBin b { r with state := stateByFill (s.binCfg b) r.fill }
  else s

/-- R97, R100: a settled full-sensor fall. -/
def State.fullSensorFall (b : BinNo) (s : State) : State :=
  if s.settled b .full false then (s.takeSensor b .full false).fillDown b else s

def execFullSensorFall (dt : Nat) (b : BinNo) (s : State) : Result := .next (s.after dt (State.fullSensorFall b))

/-- R111: the period timer has run out. -/
def State.binstatePeriod (s : State) : State :=
  if s.running && Timer.due s.bins.periodTimer then s.askBinstate else s

def execBinstatePeriodTimer (dt : Nat) (s : State) : Result := .next (s.after dt State.binstatePeriod)

end Sys2Proof.Machine
end

