-- ==== Sys2Proof/Machine/Ejectors.lean ====
section
/-! DEFINITION. The commands of the ejectors' timers (R125). -/

namespace Sys2Proof.Machine

/-- R125: the pulse width has elapsed. -/
def State.pulseEnds (b : BinNo) (s : State) : State :=
  let e := s.ej.get b
  if e.state = .pulsing ∧ Timer.due e.pulse = true then s.setEjector b (e.recover (s.binCfg b).recoveryMs) else s

def execPulseTimerExpiry (dt : Nat) (b : BinNo) (s : State) : Result := .next (s.after dt (State.pulseEnds b))

/-- R125, R130: the recovery time has elapsed; the arm-home check, where the feedback is fitted. -/
def State.recoveryEnds (b : BinNo) (home : Bool) (s : State) : State :=
  let e := s.ej.get b
  if e.state = .recovering ∧ Timer.due e.recovery = true then
    if (s.binCfg b).homeFitted then
      let s1 := s.senseHome b home
      if home then s1.setEjector b { e with state := .ready, recovery := none } else s1.enterFault b
    else s.setEjector b { e with state := .ready, recovery := none }
  else s

def execRecoveryTimerExpiry (dt : Nat) (b : BinNo) (home : Bool) (s : State) : Result :=
  .next (s.after dt (State.recoveryEnds b home))

end Sys2Proof.Machine
end

