-- ==== Sys2Proof/Machine/GateEvents.lean ====
section
/-! DEFINITION. The commands of the coil, and the end of the foreign attention pulse (R34, R91). -/

namespace Sys2Proof.Machine

/-- R34: the window has run its length. -/
def State.windowEnds (close : WindowClose) (s : State) : State :=
  if s.running && Timer.due s.gate.windowTimer then s.closeWindow close else s

def execCoilWindowClose (dt : Nat) (close : WindowClose) (s : State) : Result := .next (s.after dt (State.windowEnds close))

/-- R34: an oscillator edge. -/
def State.oscillatorEdge (s : State) : State :=
  if s.running then s.setGate { s.gate with windowCount := min Config.counterMax (s.gate.windowCount + 1) } else s

def execOscillatorEdge (dt : Nat) (s : State) : Result := .next (s.after dt State.oscillatorEdge)

/-- R91: the pulse has run its 2000 ms. -/
def State.foreignPulseEnds (s : State) : State :=
  if Timer.due s.trk.foreignPulse then s.setTrk { s.trk with foreignPulse := none } else s

def execForeignAttentionPulseEnd (dt : Nat) (s : State) : Result := .next (s.after dt State.foreignPulseEnds)

end Sys2Proof.Machine
end

