-- ==== Sys2Proof/Machine/LoopLine.lean ====
section
/-! DEFINITION. The commands of the line receiver, the transmitter and the link (chapter 8). The receiver listens once the
reset has ended (section 8.9). -/

namespace Sys2Proof.Machine

/-! ### The receiver -/

/-- Section 8.9: what the receiver does with `f`, once it listens. -/
def State.hears (f : State → State) (s : State) : State := if s.listening then f s else s

/-- R138 to R142: a cell. -/
def execCellReceived (dt : Nat) (cell : CellClass) (s : State) : Result :=
  .next (s.after dt (State.hears (fun s => s.receiveCell cell)))

/-- R139, R142: an open mark. -/
def execOpenMark (dt : Nat) (s : State) : Result := .next (s.after dt (State.hears (fun s => s.receivePair .zero)))

/-- R139, R142: an abort mark. -/
def execAbortMark (dt : Nat) (s : State) : Result := .next (s.after dt (State.hears (fun s => s.receivePair .violation)))

/-- R139, R143: a close mark. -/
def execCloseMark (dt : Nat) (s : State) : Result := .next (s.after dt (State.hears (fun s => s.receivePair .one)))

/-- R139, R142: a line error of the named kind, where the receiver stands so that the kind can occur. -/
def State.lineError (kind : LineErrorKind) (s : State) : State :=
  match kind with
  | .loneViolation => s.receivePair .empty
  | .violationInByte =>
    if s.port.rx = .frame ∧ s.port.bits ≠ [] ∧ s.port.pairOpen = false then s.receiveCell .violation else s
  | .strayEmpty => if s.port.rx = .frame ∧ s.port.pairOpen = false then s.receiveCell .empty else s

def execLineError (dt : Nat) (kind : LineErrorKind) (s : State) : Result :=
  .next (s.after dt (State.hears (State.lineError kind)))

/-- R142: the cell that completes a 68th byte. -/
def State.frameTooLong (s : State) : State :=
  if s.port.rx = .frame ∧ s.port.pairOpen = false ∧ Config.bufferMax ≤ s.port.buffer.length ∧ s.port.bits.length = 7 then
    s.receiveCell .zero
  else s

def execFrameTooLong (dt : Nat) (s : State) : Result := .next (s.after dt (State.hears State.frameTooLong))

/-- R140: the third VIOLATION in a row, or 8 cell times of silence. -/
def State.lossEntry (cause : LossCause) (s : State) : State :=
  match cause with
  | .thirdViolation => if s.port.rx ≠ .loss ∧ s.port.violationRun = 2 then s.receiveCell .violation else s
  | .silence =>
    if s.port.rx ≠ .loss ∧ Config.silenceCells * Config.cellNs ≤ s.port.silence then s.enterLoss else s

def execLossEntry (dt : Nat) (cause : LossCause) (s : State) : Result :=
  .next (s.after dt (State.hears (State.lossEntry cause)))

/-- R141: the cell that brings the idle run to 32 in LOSS. -/
def State.lossReturn (s : State) : State :=
  if s.port.rx = .loss ∧ s.port.idleRun = 31 then s.receiveCell .one else s

def execLossReturn (dt : Nat) (s : State) : Result := .next (s.after dt (State.hears State.lossReturn))

/-! ### The transmitter (R145, R146) -/

/-- R145: the 16th idle cell: the transmitter is FREE, and asks the arbiter. -/
def State.transmitterFree (s : State) : State :=
  if s.port.tx = .gap ∧ Timer.due s.port.txTimer = true then
    (s.setPort { s.port with tx := .free, txTimer := none }).askArbiter
  else s

def execTransmitterFree (dt : Nat) (s : State) : Result := .next (s.after dt State.transmitterFree)

/-- The transmitter is SENDING. -/
def TxState.isSending (t : TxState) : Bool :=
  match t with
  | .sending _ => true
  | .silent => false
  | .gap => false
  | .free => false
  | .aborting _ => false

/-- The transmitter is ending a cut frame. -/
def TxState.isAborting (t : TxState) : Bool :=
  match t with
  | .aborting _ => true
  | .silent => false
  | .gap => false
  | .free => false
  | .sending _ => false

/-- R145: the close mark has gone out. -/
def State.frameSent (s : State) : State :=
  if s.port.tx.isSending && Timer.due s.port.txTimer then s.setPort s.port.gap else s

def execFrameSent (dt : Nat) (s : State) : Result := .next (s.after dt State.frameSent)

/-- R146: the abort mark has gone out: the relay is driven closed, and the transmitter is silent. -/
def State.abortMarkSent (s : State) : State :=
  if s.port.tx.isAborting && Timer.due s.port.txTimer then
    s.setPort { s.port with tx := .silent, txTimer := none, relayDrive := false }
  else s

def execAbortMarkSent (dt : Nat) (s : State) : Result := .next (s.after dt State.abortMarkSent)

/-! ### The link (R148 to R151) -/

/-- R148: 200 ms after a joining ROLL was asked for, a further one, while fewer than five have been. -/
def State.joiningRetry (s : State) : State :=
  if s.port.link = .joining ∧ Timer.due s.port.joinTimer = true ∧ s.ltu.joinRetry < 5 then s.requestJoiningRoll else s

def execJoiningRollRetry (dt : Nat) (s : State) : Result := .next (s.after dt State.joiningRetry)

/-- R149: 200 ms after the fifth joining ROLL was asked for. -/
def State.joinTimeout (s : State) : State :=
  if s.port.link = .joining ∧ Timer.due s.port.joinTimer = true ∧ 5 ≤ s.ltu.joinRetry then s.sever false else s

def execJoinTimeout (dt : Nat) (s : State) : Result := .next (s.after dt State.joinTimeout)

/-- R150, R151: LOSS has lasted 50 ms. Where the 32nd idle cell comes together with it, the idle run stands (log 22). -/
def State.lossTimerEnds (withIdleCell : Bool) (s : State) : State :=
  if Timer.due s.port.lossTimer then s.sever (withIdleCell && s.port.idleRun == 31) else s

def execLossTimerExpiry (dt : Nat) (withIdleCell : Bool) (s : State) : Result :=
  .next (s.after dt (State.lossTimerEnds withIdleCell))

/-- R151: the cell that brings the idle run to 32 in SEVERED. -/
def State.severedRejoin (s : State) : State :=
  if s.port.link = .severed ∧ s.port.rx ≠ .frame ∧ s.port.idleRun = 31 then s.receiveCell .one else s

def execSeveredRejoin (dt : Nat) (s : State) : Result := .next (s.after dt (State.hears State.severedRejoin))

end Sys2Proof.Machine
end

