-- ==== Sys2Proof/Machine/LoopTraffic.lean ====
section
/-! DEFINITION. The commands of the recall timer, of a peer's silence, and of the STATUS period timer (R168, R170, R188). -/

namespace Sys2Proof.Machine

/-- R170: the recall timer has run out. -/
def State.recallEnds (s : State) : State :=
  if Timer.due s.ltu.recallTimer then s.setLtu { s.ltu with recallTimer := none } else s

def execRecallTimerExpiry (dt : Nat) (s : State) : Result := .next (s.after dt State.recallEnds)

/-- R168: the peer has been silent for 3000 ms. -/
def State.silentFor (s : State) (address : Nat) : Bool :=
  match s.peer address with
  | some p => decide (Config.silenceMs ≤ s.since p.lastHeard)
  | none => false

/-- R168, R171: a peer's silence removes it; ageing stops while the link is BYPASSED. -/
def State.peerSilence (address : Nat) (s : State) : State :=
  if s.port.link ≠ .bypassed ∧ s.silentFor address = true then s.removePeer address else s

def execPeerSilenceTimeout (dt : Nat) (address : Nat) (s : State) : Result :=
  .next (s.after dt (State.peerSilence address))

/-- R188: the period timer has run out: it restarts, and a STATUS is built and queued. -/
def State.statusPeriod (s : State) : State :=
  if s.running && Timer.due s.ctl.statusTimer then
    (s.setCtl { s.ctl with statusTimer := Timer.start Config.statusMs }).enqueueOwn s.statusFrame
  else s

def execStatusPeriodTimer (dt : Nat) (s : State) : Result := .next (s.after dt State.statusPeriod)

end Sys2Proof.Machine
end

