-- ==== Sys2Proof/Machine/Modes.lean ====
section
/-! DEFINITION. The commands of the service key and the safety chain (R182 to R186). -/

namespace Sys2Proof.Machine

/-- R182: the key line changes level, and its settle time starts; a return to the settled level ends it. -/
def State.keyChange (turned : Bool) (s : State) : State :=
  if turned = s.pins.keyTurned then s
  else
    let s1 := s.setPins { s.pins with keyTurned := turned }
    if s1.running then
      s1.setCtl { s1.ctl with keyTimer := if turned = s1.ctl.keyTurned then none else Timer.start Config.keySettleMs }
    else s1

def execServiceKeyChange (dt : Nat) (turned : Bool) (s : State) : Result := .next (s.after dt (State.keyChange turned))

/-- R182: the key line has held the level `turned`, new to it, for 50 ms. -/
def State.keySettled (s : State) (turned : Bool) : Bool :=
  s.running && Timer.due s.ctl.keyTimer && s.ctl.keyTurned != turned && s.pins.keyTurned == turned

/-- R182: the key's settled level becomes `turned`. -/
def State.takeKey (s : State) (turned : Bool) : State :=
  s.setCtl { s.ctl with keyTurned := turned, keyTimer := none }

/-- R182, R183: a press. -/
def State.press (s : State) : State :=
  match s.ctl.mode with
  | .run => s.enterService
  | .service => s.leaveService
  | .safe => s
  | .start => s
  | .halted => s

/-- R182: a settled change from released to turned. -/
def State.keyPress (s : State) : State := if s.keySettled true then (s.takeKey true).press else s

def execServiceKeyPress (dt : Nat) (s : State) : Result := .next (s.after dt State.keyPress)

/-- R182: a settled change from turned to released. -/
def State.keyRelease (s : State) : State := if s.keySettled false then s.takeKey false else s

def execKeySettledRelease (dt : Nat) (s : State) : Result := .next (s.after dt State.keyRelease)

/-- R184, R126: the chain opens; in SAFE a closing wait ends (R185). -/
def State.chainOpens (s : State) : State :=
  let s1 := s.setPins { s.pins with chainClosed := false }
  match s1.ctl.mode with
  | .run => s1.enterSafe
  | .service => s1.enterSafe
  | .safe => s1.setCtl { s1.ctl with chainTimer := none }
  | .start => s1
  | .halted => s1

def execSafetyChainOpening (dt : Nat) (s : State) : Result := .next (s.after dt State.chainOpens)

/-- R185: the chain closes; in SAFE the closing wait starts. -/
def State.chainCloses (s : State) : State :=
  if s.pins.chainClosed then s
  else
    let s1 := s.setPins { s.pins with chainClosed := true }
    if s1.ctl.mode = .safe then s1.setCtl { s1.ctl with chainTimer := Timer.start Config.chainSettleMs } else s1

def execSafetyChainClosing (dt : Nat) (s : State) : Result := .next (s.after dt State.chainCloses)

/-- R185: the chain has stayed closed for 200 ms. -/
def State.safeExit (s : State) : State :=
  if s.ctl.mode = .safe ∧ Timer.due s.ctl.chainTimer = true then s.leaveSafe else s

def execSafeExit (dt : Nat) (s : State) : Result := .next (s.after dt State.safeExit)

end Sys2Proof.Machine
end

