-- ==== Sys2Proof/Machine/Dispatch.lean ====
section
/-! DEFINITION. One arm per command: the call of its meaning. -/

namespace Sys2Proof.Machine

/-- The effect of a command on everything but the queue. -/
def exec (i : Instr) (s : State) : Host.Outcome State Fault Refusal :=
  match i with
  | .powerOnReset dt => Sys2Proof.Machine.execPowerOnReset dt s
  | .externalReset dt => Sys2Proof.Machine.execExternalReset dt s
  | .start dt straps => Sys2Proof.Machine.execStart dt straps s
  | .attemptFailure dt => Sys2Proof.Machine.execAttemptFailure dt s
  | .configReadRetry dt => Sys2Proof.Machine.execConfigReadRetry dt s
  | .configReadComplete dt memory armHome => Sys2Proof.Machine.execConfigReadComplete dt memory armHome s
  | .rawPulse dt smp => Sys2Proof.Machine.execRawPulse dt smp s
  | .slatMark dt smp => Sys2Proof.Machine.execSlatMark dt smp s
  | .seamReport dt => Sys2Proof.Machine.execSeamReport dt s
  | .encoderWatchdogExpiry dt => Sys2Proof.Machine.execEncoderWatchdogExpiry dt s
  | .fallbackStep dt smp => Sys2Proof.Machine.execFallbackStep dt smp s
  | .beltRunChange dt on => Sys2Proof.Machine.execBeltRunChange dt on s
  | .coilWindowClose dt close => Sys2Proof.Machine.execCoilWindowClose dt close s
  | .foreignAttentionPulseEnd dt => Sys2Proof.Machine.execForeignAttentionPulseEnd dt s
  | .pulseTimerExpiry dt b => Sys2Proof.Machine.execPulseTimerExpiry dt b s
  | .recoveryTimerExpiry dt b home => Sys2Proof.Machine.execRecoveryTimerExpiry dt b home s
  | .binSensorChange dt b sensor level => Sys2Proof.Machine.execBinSensorChange dt b sensor level s
  | .insertion dt b => Sys2Proof.Machine.execInsertion dt b s
  | .removal dt b => Sys2Proof.Machine.execRemoval dt b s
  | .fullSensorRise dt b => Sys2Proof.Machine.execFullSensorRise dt b s
  | .fullSensorFall dt b => Sys2Proof.Machine.execFullSensorFall dt b s
  | .binstatePeriodTimer dt => Sys2Proof.Machine.execBinstatePeriodTimer dt s
  | .openMark dt => Sys2Proof.Machine.execOpenMark dt s
  | .abortMark dt => Sys2Proof.Machine.execAbortMark dt s
  | .lineError dt kind => Sys2Proof.Machine.execLineError dt kind s
  | .frameTooLong dt => Sys2Proof.Machine.execFrameTooLong dt s
  | .closeMark dt => Sys2Proof.Machine.execCloseMark dt s
  | .lossEntry dt cause => Sys2Proof.Machine.execLossEntry dt cause s
  | .lossReturn dt => Sys2Proof.Machine.execLossReturn dt s
  | .recallTimerExpiry dt => Sys2Proof.Machine.execRecallTimerExpiry dt s
  | .transmitterFree dt => Sys2Proof.Machine.execTransmitterFree dt s
  | .frameSent dt => Sys2Proof.Machine.execFrameSent dt s
  | .joiningRollRetry dt => Sys2Proof.Machine.execJoiningRollRetry dt s
  | .joinTimeout dt => Sys2Proof.Machine.execJoinTimeout dt s
  | .lossTimerExpiry dt withIdleCell => Sys2Proof.Machine.execLossTimerExpiry dt withIdleCell s
  | .severedRejoin dt => Sys2Proof.Machine.execSeveredRejoin dt s
  | .peerSilenceTimeout dt address => Sys2Proof.Machine.execPeerSilenceTimeout dt address s
  | .statusPeriodTimer dt => Sys2Proof.Machine.execStatusPeriodTimer dt s
  | .serviceKeyChange dt turned => Sys2Proof.Machine.execServiceKeyChange dt turned s
  | .serviceKeyPress dt => Sys2Proof.Machine.execServiceKeyPress dt s
  | .safetyChainOpening dt => Sys2Proof.Machine.execSafetyChainOpening dt s
  | .safetyChainClosing dt => Sys2Proof.Machine.execSafetyChainClosing dt s
  | .safeExit dt => Sys2Proof.Machine.execSafeExit dt s
  | .oscillatorEdge dt => Sys2Proof.Machine.execOscillatorEdge dt s
  | .cellReceived dt cell => Sys2Proof.Machine.execCellReceived dt cell s
  | .keySettledRelease dt => Sys2Proof.Machine.execKeySettledRelease dt s
  | .abortMarkSent dt => Sys2Proof.Machine.execAbortMarkSent dt s

end Sys2Proof.Machine
end

