-- ==== Sys2Proof/Safety.lean ====
section
/-! DEFINITION. What a safe state is: its next step neither faults nor is refused. -/

namespace Sys2Proof.Machine

/-- The next step answers a next state. -/
def State.safe (s : State) : Prop := ∃ t, step s = .next t

end Sys2Proof.Machine
end

