-- ==== Sys2Proof/Certificates/Slice0/Obligations.lean ====
section
/-! DEFINITION. The statements for the provers. Throughout, `s.elapse dt` is the station after the time a command brings,
before the command's own effect; times are in nanoseconds. -/

namespace Sys2Proof.Machine

/-- The parts of the station that a command may leave as they were. The lamp is no part of `mode`: it follows the rest
(R190, and the statement EveryCommandAnswers). -/
inductive Part where
  | cfg | retention | pos | gate | classifier | trk | bins | ej | port | ltu | mode | pins | counters | pending
  deriving DecidableEq, Repr

/-- The Mode Controller without the lamp. -/
def ModeController.noLamp (m : ModeController) : ModeController := { m with lamp := .off, lampTime := 0 }

/-- The Mode Controller of `t` is `m`, the lamp apart. -/
def ControllerIs (t : State) (m : ModeController) : Prop := t.ctl.noLamp = m.noLamp

/-- Part `p` is the same in both states. -/
def State.same (s t : State) (p : Part) : Prop :=
  match p with
  | .cfg => t.cfg = s.cfg
  | .retention => t.retention = s.retention
  | .pos => t.pos = s.pos
  | .gate => t.gate = s.gate
  | .classifier => t.classifier = s.classifier
  | .trk => t.trk = s.trk
  | .bins => t.bins = s.bins
  | .ej => t.ej = s.ej
  | .port => t.port = s.port
  | .ltu => t.ltu = s.ltu
  | .mode => t.ctl.noLamp = s.ctl.noLamp
  | .pins => t.pins = s.pins
  | .counters => t.counters = s.counters
  | .pending => t.pending = s.pending

/-- Every part but the named ones is the same in both states. -/
def SameBut (ch : List Part) (s t : State) : Prop := ∀ p, p ∉ ch → s.same t p

/-- The timer runs, and runs out within `dt`. -/
def RunsOut (t : Timer) (dt : Nat) : Prop := ∃ r, t = some r ∧ r ≤ dt

/-- The parts that a step event may touch beside the Position Unit and retention memory. -/
def stepParts : List Part := [.pos, .retention, .gate, .trk, .bins, .ej, .port, .ltu, .pins, .counters]

/-- The parts that the end of an event touches when a BINSTATE has been asked for. -/
def binstateParts : List Part := [.bins, .port, .ltu, .counters]

/-- R143: one line drop, which a BYPASSED link does not count. -/
def DropCounted (s t : State) : Prop :=
  t.counters = if s.port.link = .bypassed then s.counters else s.counters.bump .lineDrops

/-- R145, R162: frame `f`, which replaces no queued frame, asks for the own queue: a full queue drops and counts it; else it joins
the tail, and a FREE transmitter that finds both queues empty sends it, at once by the model's choice (log 30). -/
def OwnJoins (s t : State) (f : Frame) : Prop :=
  (8 ≤ s.ltu.ownQueue.length → t.ltu.ownQueue = s.ltu.ownQueue ∧ t.counters = s.counters.bump .queueDrops) ∧
  (s.ltu.ownQueue.length < 8 → t.counters = s.counters ∧
    (s.port.tx ≠ .free → t.ltu.ownQueue = s.ltu.ownQueue ++ [f]) ∧
    (s.port.tx = .free → s.ltu.transitQueue = [] → s.ltu.ownQueue = [] →
      t.ltu.ownQueue = [] ∧ t.port.tx = .sending f.lineBytes))

/-- R166: the order of the peer table: by gate distance, then by address. -/
def PeerLt (a b : PeerEntry) : Prop := a.gateDist < b.gateDist ∨ (a.gateDist = b.gateDist ∧ a.address < b.address)

/-- The record of every bin but `b` is the same. -/
def OtherBins (b : BinNo) (s t : State) : Prop := ∀ c, c ≠ b → t.bins.recs.get c = s.bins.recs.get c

/-- `r` is `l` with `x` put in its place by distance, after every member at most as far (R55, R59, R79). -/
def InsertedByDist {α : Type} (dist : α → Int) (x : α) (l r : List α) : Prop :=
  ∃ before after, l = before ++ after ∧ r = before ++ x :: after ∧ (∀ y ∈ before, dist y ≤ dist x) ∧
    ∀ y, after.head? = some y → dist x < dist y

/-- Every entry that schedule `b` holds in `s` has become PASS with reason `r` in `t`; one whose exit extent was crossed has
been decided and is gone (R80, R87, section 7.7). -/
def Cancelled (s t : State) (b : BinNo) (r : PassReason) : Prop :=
  ∀ it ∈ (s.ej.get b).schedule, ∀ e, s.entry it.ref = some e → ∀ c fp, e.state = .scheduled c fp →
    t.entry it.ref = if e.exitDone then none else some { e with state := .pass r }

/-- R133: the cut count rises by one for each pulse in progress, and holds at 65535. -/
def CutsCounted (s t : State) : Prop :=
  s.counters.cuts ≤ 65535 → t.counters.cuts = min 65535 (s.counters.cuts +
    ([BinNo.bin1, .bin2, .bin3, .bin4].filter (fun b => decide ((s.ej.get b).state = .pulsing))).length)

/-- R126, R184, R185: an output is on only where it may be: at a PULSING ejector, which with every schedule that holds an item
stands in RUN; RUN and SERVICE have the chain closed; and the closing wait runs only in SAFE, with the chain closed. -/
def OutputsAllowed (s : State) : Prop :=
  (∀ b, (s.ej.get b).shadow = true → (s.ej.get b).state = .pulsing) ∧
  (∀ b, (s.ej.get b).state = .pulsing ∨ (s.ej.get b).schedule ≠ [] → s.ctl.mode = .run) ∧
  (s.ctl.mode = .run ∨ s.ctl.mode = .service → s.pins.chainClosed = true ∧ s.ctl.chainClosed = true) ∧
  (s.ctl.chainTimer.isSome = true → s.ctl.mode = .safe ∧ s.pins.chainClosed = true)

/-- Section 6.1: what is committed to a bin is within its capacity, an ABSENT bin holds nothing, and the pending count is the
number of transit entries that name the bin. -/
def BinsInBalance (s : State) : Prop :=
  ∀ b, (s.bins.recs.get b).fill + (s.bins.recs.get b).pending ≤ (s.binCfg b).capacity ∧
    ((s.bins.recs.get b).state = .absent → (s.bins.recs.get b).fill = 0 ∧ (s.bins.recs.get b).pending = 0) ∧
    (s.bins.recs.get b).pending = (s.trk.transit.filter (fun e => decide (e.state.names = some b))).length

/-- R78, R123, R127: no reference is carried twice, and the items of a schedule or a watch are the transit entries in
SCHEDULED or FIRED for that ejector, one for one. -/
def ItemsHaveEntries (s : State) : Prop :=
  (s.trk.transit.map (fun e => e.ref)).Nodup ∧
  ∀ b, ((s.ej.get b).schedule.map (fun it => it.ref)).Nodup ∧ ((s.ej.get b).watch.map (fun w => w.ref)).Nodup ∧
    (∀ it ∈ (s.ej.get b).schedule, ∃ e ∈ s.trk.transit, e.ref = it.ref ∧ e.state = .scheduled b it.firePos) ∧
    (∀ e ∈ s.trk.transit, ∀ fp, e.state = .scheduled b fp → ⟨e.ref, fp⟩ ∈ (s.ej.get b).schedule) ∧
    (∀ w ∈ (s.ej.get b).watch, ∃ e ∈ s.trk.transit, e.ref = w.ref ∧ ∃ fp, e.state = .fired b fp w.detached) ∧
    (∀ e ∈ s.trk.transit, ∀ fp d, e.state = .fired b fp d → ∃ w ∈ (s.ej.get b).watch, w.ref = e.ref)

/-- R97, R106, R107: a bin that is not there, or was pulled in a service visit and not put back, is ABSENT; START holds no item,
no visit and no fill. -/
def AbsenceShown (s : State) : Prop :=
  (∀ b, (s.bins.present.get b).settled = false → (s.bins.recs.get b).state = .absent) ∧
  (∀ q, s.bins.snapshot = some q → ∀ b, (q.get b).mark = .replaced → (s.bins.recs.get b).state = .absent) ∧
  (s.ctl.mode = .start → s.trk.transit = [] ∧ s.bins.snapshot = none ∧ ∀ b, (s.bins.recs.get b).fill = 0)

/-- The laws of section 6.1, with what they rest on. -/
def BinLaws (s : State) : Prop := BinsInBalance s ∧ ItemsHaveEntries s ∧ AbsenceShown s

/-- R3: while the station runs, its configuration is in range and its position within the belt and the slot. -/
def PositionInRange (s : State) : Prop :=
  s.running = true → s.cfg.inRange = true ∧ s.pos.step ≤ 63 ∧ s.pos.slot < s.cfg.slots ∧ s.pos.overrun < s.cfg.guard

end Sys2Proof.Machine

open Sys2Proof Sys2Proof.Machine

/-! ### The queue, and every command -/

/-- The model's queue (log 1, DESIGN CHOICE: the spec gives the station none): the command in front is run on the station with
the rest of the queue. -/
def Obligations.StepRunsFrontCommand : Prop :=
  ∀ (c : Instr) (rest : List Instr) (s : State), step (s.setPending (c :: rest)) = exec c (s.setPending rest)

/-- The model's choice, log 1: with no command waiting the station idles. -/
def Obligations.EmptyQueueIdles : Prop := ∀ s : State, s.pending = [] → step s = .next s

/-- Every command answers a next state; the queue stands, no request for BINSTATE is left open (log 5), and the station lamp shows
the pattern of the state, a new one from its on phase (R190). The patterns themselves (R180, R190), the bin lamps (R113), and
the causes of the attention output (R191). The phase of the flashing bin lamps at State.reset is the model's choice (log 21). -/
def Obligations.EveryCommandAnswers : Prop :=
  (∀ (c : Instr) (s : State), ∃ t, exec c s = .next t ∧ t.pending = s.pending ∧ t.bins.asked = false ∧
    t.ctl.lamp = t.lampPattern ∧ (t.ctl.lamp ≠ s.ctl.lamp → t.ctl.lampTime = 0)) ∧
  (∀ s : State,
    (s.ctl.mode = .start → s.ctl.phase ≠ .inReset → s.lampPattern = .steady) ∧
    (s.ctl.mode = .halted → s.lampPattern = .code s.ctl.haltCode) ∧
    (s.ctl.mode = .run → s.port.link = .joined → s.pos.cond = .normal → s.lampPattern = .steady) ∧
    (s.ctl.mode = .run → s.port.link ≠ .joined ∨ s.pos.cond ≠ .normal → s.lampPattern = .interrupted) ∧
    (s.ctl.mode = .service → s.lampPattern = .oneHz) ∧ (s.ctl.mode = .safe → s.lampPattern = .fourHz)) ∧
  (∀ (s : State) (dt : Nat), s.stationLamp = s.ctl.lamp.lit s.ctl.lampTime ∧
    (s.elapse dt).ctl.lampTime = (s.ctl.lampTime + dt) % s.ctl.lamp.cycle ∧
    (s.elapse dt).ctl.flashPhase = (s.ctl.flashPhase + dt) % 1000000000) ∧
  (∀ t n : Nat, LampPattern.off.lit t = false ∧ LampPattern.steady.lit t = true ∧
    (LampPattern.interrupted.cycle = 1000000000 ∧ LampPattern.oneHz.cycle = 1000000000 ∧
      LampPattern.fourHz.cycle = 250000000 ∧ (LampPattern.code n).cycle = n * 600000000 + 2000000000) ∧
    (LampPattern.interrupted.lit t = true ↔ t < 750000000) ∧ (LampPattern.oneHz.lit t = true ↔ t < 500000000) ∧
    (LampPattern.fourHz.lit t = true ↔ t < 125000000) ∧
    ((LampPattern.code n).lit t = true ↔ t < n * 600000000 ∧ t % 600000000 < 300000000)) ∧
  (∀ (s : State) (b : BinNo),
    let r := s.bins.recs.get b
    ((s.binCfg b).configured = false ∨ s.running = false → s.binLamp b = false) ∧
    ((s.binCfg b).configured = true → s.running = true →
      (r.state = .held → s.binLamp b = !s.stationLamp) ∧
      (r.state ≠ .held → r.faultShown = true ∨ r.state = .full →
        s.binLamp b = decide (s.ctl.flashPhase % 250000000 < 125000000)) ∧
      (r.faultShown = false →
        (r.state = .near → s.binLamp b = decide (s.ctl.flashPhase < 500000000)) ∧
        (r.state = .opened → s.binLamp b = true) ∧ (r.state = .absent → s.binLamp b = false)))) ∧
  (∀ s : State, s.attention = true ↔ s.ctl.mode = .halted ∨
    (s.running = true ∧ (s.trk.foreignPulse ≠ none ∨
      ∃ b, (s.binCfg b).configured = true ∧
        ((s.bins.recs.get b).state = .full ∨ (s.bins.recs.get b).faultShown = true))))

/-! ### Resets and START -/

/-- The values that chapters 1 to 11 list for power-on reset. -/
def Obligations.ResetStateHoldsListedValues : Prop :=
  let s := State.reset
  (s.pos.acc = 0 ∧ s.pos.slotPulses = 0 ∧ s.pos.pend = none ∧ s.pos.slot = 0 ∧ s.pos.step = 0 ∧ s.pos.overrun = 0 ∧
    s.pos.gatePos = 0 ∧ s.pos.cond = .unsynced ∧ s.pos.seamFlag = false ∧ s.pos.slipFlag = false ∧ s.pos.missed = 0 ∧
    s.pos.good = 0 ∧ s.pos.period = none ∧ s.pos.speed = 0 ∧ s.pos.trimSum = 0 ∧ s.pos.trimCount = 0 ∧ s.pos.qual = none ∧
    s.pos.watchdog = none) ∧
  (s.gate.state = .held ∧ s.gate.detection = none ∧ s.gate.completing = [] ∧
    s.gate.beams = List.replicate 12 ⟨false, 0, 0⟩ ∧ s.gate.windowCount = 0 ∧ s.gate.baseline = none ∧
    s.gate.baseSum = 0 ∧ s.gate.tally = 0 ∧ s.gate.lowRun = 0 ∧ s.gate.goodRun = 0 ∧ s.gate.coilFault = false ∧
    s.gate.overRange = false) ∧
  (s.classifier.table = [] ∧ s.classifier.digest = none) ∧
  (s.trk.expect = [] ∧ s.trk.link = [] ∧ s.trk.serial = 0 ∧ s.trk.transit = [] ∧ s.trk.refCount = 0 ∧
    s.trk.foreignPulse = none) ∧
  (s.bins.recs = Quad.all ⟨.absent, 0, 0, false, false⟩ ∧ s.bins.snapshot = none ∧ s.bins.periodTimer = none ∧
    s.bins.board = []) ∧
  s.ej = Quad.all ⟨.ready, false, 0, none, none, [], []⟩ ∧
  (s.port.link = .bypassed ∧ s.port.relayDrive = false ∧ s.port.tx = .silent ∧ s.port.rx = .loss ∧ s.port.idleRun = 0 ∧
    s.port.violationRun = 0 ∧ s.port.silence = 0 ∧ s.port.buffer = [] ∧ s.port.lossTimer = none) ∧
  (s.ltu.transitQueue = [] ∧ s.ltu.ownQueue = [] ∧ s.ltu.fairness = 0 ∧ s.ltu.peers = [] ∧ s.ltu.joinRetry = 0 ∧
    s.ltu.recallTimer = none) ∧
  (s.ctl.mode = .start ∧ s.ctl.heldMode = none ∧ s.ctl.haltCode = 0 ∧ s.ctl.clockRunning = false ∧
    s.ctl.statusTimer = none ∧ s.stationLamp = false ∧ s.attention = false) ∧
  s.retention = ⟨⟨0, 0⟩, ⟨0, 0⟩, 0, Quad.all ⟨0, false, 0⟩⟩ ∧ (∀ k, s.counters.get k = 0)

/-- Either reset answers the reset state: power-on clears retention memory, external reset keeps it and its serial (R173,
R174). The pins, the queue and the phase of the bin lamps are the model's own and go on (logs 1, 3, 21), and so are the
values of log 7. -/
def Obligations.ResetsGiveEveryBlockItsValues : Prop :=
  ∀ (s : State) (dt : Nat),
    exec (.powerOnReset dt) s = .next { State.reset with
      pins := s.pins, pending := s.pending,
      ctl := { State.reset.ctl with flashPhase := (s.ctl.flashPhase + dt) % 1000000000 } } ∧
    exec (.externalReset dt) s = .next { State.reset with
      retention := s.retention, trk := { State.reset.trk with serial := s.retention.serial }, pins := s.pins,
      pending := s.pending, ctl := { State.reset.ctl with flashPhase := (s.ctl.flashPhase + dt) % 1000000000 } }

/-- R175, R176: START latches the straps, the address is the strap value plus one, and the read begins; a failed attempt waits
10 ms, the third in a row ends START with code 1, and the read begins again when the wait ends. -/
def Obligations.StartLatchesAndRetries : Prop :=
  (∀ (s : State) (dt : Nat) (straps : BitVec 4), s.ctl.mode = .start → s.ctl.phase = .inReset → s.bins.asked = false →
    ∃ t, exec (.start dt straps) s = .next t ∧ t.pins = { s.pins with straps := straps } ∧ t.ctl.lamp = .steady ∧
      t.ctl.noLamp = ({ (s.elapse dt).ctl with
        phase := .reading, address := straps.toNat + 1, failures := 0 } : ModeController).noLamp ∧
      SameBut [.mode, .pins] (s.elapse dt) t) ∧
  (∀ (s : State) (dt : Nat), s.ctl.mode = .start → s.ctl.phase = .reading → s.bins.asked = false →
    ∃ t, exec (.attemptFailure dt) s = .next t ∧ SameBut [.mode] (s.elapse dt) t ∧
      (s.ctl.failures < 2 → t.ctl.noLamp = ({ (s.elapse dt).ctl with
        phase := .waiting, failures := s.ctl.failures + 1, retryTimer := some 10000000 } : ModeController).noLamp) ∧
      (2 ≤ s.ctl.failures → t.attention = true ∧ t.ctl.lamp = .code 1 ∧ t.ctl.noLamp = ({ (s.elapse dt).ctl with
        mode := .halted, phase := .ended, haltCode := 1, failures := s.ctl.failures + 1,
        retryTimer := none } : ModeController).noLamp)) ∧
  (∀ (s : State) (dt : Nat), s.ctl.mode = .start → s.ctl.phase = .waiting → RunsOut s.ctl.retryTimer dt →
    s.bins.asked = false →
    ∃ t, exec (.configReadRetry dt) s = .next t ∧ SameBut [.mode] (s.elapse dt) t ∧
      t.ctl.noLamp = ({ (s.elapse dt).ctl with phase := .reading, retryTimer := none } : ModeController).noLamp)

/-- R177, R180: the first check that fails ends START in HALTED with its code. The checks behind the codes (R43, R177, R193): the
sum of the bytes, the ranges with the unused bits, and a rule for every configured bin's class; the line order is
LineOrderCheck. -/
def Obligations.FailedCheckHaltsWithItsCode : Prop :=
  (∀ (s : State) (dt : Nat) (memory image : List Byte) (home : Quad Bool) (code : Nat), s.ctl.mode = .start →
    s.ctl.phase = .reading → s.bins.asked = false → recordOf memory = some image → checkImage image = some code →
    ∃ t, exec (.configReadComplete dt memory home) s = .next t ∧ t.ctl.mode = .halted ∧ t.ctl.haltCode = code ∧
      t.attention = true ∧ t.ctl.lamp = .code code ∧ SameBut [.mode, .pins, .classifier] (s.elapse dt) t) ∧
  (∀ bs : List Byte,
    let c := settingsOf bs
    (checkImage bs = some 2 ↔ checksumOk bs = false) ∧
    (checkImage bs = some 3 ↔ checksumOk bs = true ∧ rangesOk bs = false) ∧
    (checkImage bs = some 4 ↔ checksumOk bs = true ∧ rangesOk bs = true ∧ c.lineOrderOk = false) ∧
    (checkImage bs = some 5 ↔ checksumOk bs = true ∧ rangesOk bs = true ∧ c.lineOrderOk = true ∧
      binClassesOk c (rulesOf bs) = false) ∧
    (checkImage bs = none ↔ checksumOk bs = true ∧ rangesOk bs = true ∧ c.lineOrderOk = true ∧
      binClassesOk c (rulesOf bs) = true) ∧
    (checksumOk bs = true ↔ (bs.map BitVec.toNat).sum % 256 = 0) ∧
    (rangesOk bs = true ↔ (83 ≤ bs.length ∧ byteAt bs 81 ≤ 16 ∧ 83 + 10 * byteAt bs 81 ≤ bs.length) ∧
      c.inRange = true ∧ unusedClear bs = true ∧ ∀ k, k < byteAt bs 81 → (ruleAt bs k).inRange = true) ∧
    (unusedClear bs = true ↔ byteAt bs 1 = 0 ∧ wordAt bs 23 < 4096 ∧
      (∀ b : BinNo, (byteAt bs (25 + 14 * (b.number - 1))).testBit 0 = true → byteAt bs (25 + 14 * (b.number - 1)) < 8) ∧
      ∀ k, k < byteAt bs 81 → byteAt bs (82 + 10 * k) / 16 % 8 = 0 ∧
        ((byteAt bs (82 + 10 * k)).testBit 7 = true → byteAt bs (89 + 10 * k) = 0 ∧ byteAt bs (90 + 10 * k) = 0 ∧
          byteAt bs (91 + 10 * k) = 0))) ∧
  (∀ c : Settings, c.inRange = true ↔
    (128 ≤ c.slots ∧ c.slots ≤ 1024) ∧ (1 ≤ c.nominal.n ∧ c.nominal.n ≤ 255 ∧ c.nominal.m ≤ 63) ∧
    (2 ≤ c.guard ∧ c.guard ≤ 16) ∧ (20 ≤ c.encoderMs ∧ c.encoderMs ≤ 500) ∧ (1 ≤ c.gapBridge ∧ c.gapBridge ≤ 8) ∧
    (32 ≤ c.lMax ∧ c.lMax ≤ 1023) ∧ (c.windowMs = 1 ∨ c.windowMs = 2 ∨ c.windowMs = 4) ∧ c.coilFloor ≤ 65535 ∧
    (2 ≤ c.matchW ∧ c.matchW ≤ 32) ∧ (1 ≤ c.exitX ∧ c.exitX ≤ 1024) ∧ c.gateDist ≤ 1023 ∧
    (32 ≤ c.minSpeed ∧ c.minSpeed ≤ 8192) ∧ c.hysteresis ≤ 4 ∧
    ∀ b, (c.bins.get b).configured = true →
      let x := c.bins.get b
      (1 ≤ x.cls ∧ x.cls ≤ 12) ∧ (1 ≤ x.capacity ∧ x.capacity ≤ 1000) ∧ (8 ≤ x.near ∧ x.near ≤ 15) ∧
      (10 ≤ x.pulseMs ∧ x.pulseMs ≤ 250) ∧ (10 ≤ x.recoveryMs ∧ x.recoveryMs ≤ 500) ∧
      (8 ≤ x.spacing ∧ x.spacing ≤ 512) ∧ (1 ≤ x.line ∧ x.line ≤ 1024) ∧ (1 ≤ x.verify ∧ x.verify ≤ 1024)) ∧
  (∀ r : ClassRule, r.inRange = true ↔
    (1 ≤ r.cls ∧ r.cls ≤ 13) ∧ (1 ≤ r.lenLo ∧ r.lenLo ≤ r.lenHi ∧ r.lenHi ≤ 1023) ∧
    (1 ≤ r.heightLo ∧ r.heightLo ≤ r.heightHi ∧ r.heightHi ≤ 12) ∧ (r.dimLo ≤ r.dimHi ∧ r.dimHi ≤ 16) ∧
    ∀ lo hi, r.metal = some (lo, hi) → lo ≤ hi ∧ hi ≤ 4095) ∧
  (∀ (c : Settings) (rules : List ClassRule), binClassesOk c rules = true ↔
    ∀ b, (c.bins.get b).configured = true → ∃ r ∈ rules, r.cls = (c.bins.get b).cls)

/-- R179: when every check passes, START ends and every block begins work; with the chain open the station enters SAFE at
once. The Position Unit and the watchdog (R21, R22), the Gate Unit (R39), each configured bin's record with its retention
record (R109, R110), the arm-home check (R137), the link with its joining ROLL (R148), the own peer entry (R166) and the first
BINSTATE (R111), in that order in the own queue. That an absent bin's retained unverified flag becomes clear is log 20, and
what the settings of a position that is not configured hold is log 40. -/
def Obligations.PassedChecksEnterRun : Prop :=
  ∀ (s : State) (dt : Nat) (memory image : List Byte) (home : Quad Bool), s.ctl.mode = .start →
    s.ctl.phase = .reading → recordOf memory = some image → checkImage image = none →
    let set := settingsOf image
    ∃ t, exec (.configReadComplete dt memory home) s = .next t ∧
      (t.ctl.clockRunning = true ∧ t.ctl.clock = 0 ∧ t.ctl.statusTimer = some 5000000000 ∧
        t.ctl.keyTurned = s.pins.keyTurned ∧ t.ctl.chainClosed = s.pins.chainClosed ∧ t.ctl.address = s.ctl.address) ∧
      (s.pins.chainClosed = true → t.ctl.mode = .run) ∧
      (s.pins.chainClosed = false → t.ctl.mode = .safe ∧ t.ctl.heldMode = some .run) ∧
      t.cfg = set ∧ t.classifier = ⟨rulesOf image, some (digestOf image)⟩ ∧
      t.pos = { PositionUnit.reset with
        cur := startPair s.retention set.nominal
        watchdog := if s.pins.beltRun then some (set.encoderMs * 1000000) else none } ∧
      t.gate = { GateUnit.reset with state := .idle, windowClear := true, windowTimer := some (set.windowMs * 1000000) } ∧
      (t.port.link = .joining ∧ t.port.relayDrive = true ∧ t.port.joinTimer = some 200000000 ∧ t.ltu.joinRetry = 1) ∧
      t.ltu.peers = [⟨s.ctl.address, set.gateDist, digestOf image, true, false, 0⟩] ∧
      t.bins.periodTimer = some 500000000 ∧ t.pending = s.pending ∧
      (∀ b, (set.bins.get b).configured = false → t.retention.bins.get b = ⟨0, false, 0⟩) ∧
      (∀ b, (set.bins.get b).configured = true →
        let c := set.bins.get b
        let m := s.retention.bins.get b
        let r := t.bins.recs.get b
        r.pending = 0 ∧ (t.bins.present.get b).settled = s.pins.binPresent.get b ∧
        t.retention.bins.get b = ⟨r.fill, r.unverified, c.cls⟩ ∧
        (s.pins.binPresent.get b = false → r.state = .absent ∧ r.fill = 0 ∧ r.unverified = false) ∧
        (s.pins.binPresent.get b = true →
          (m.cls = c.cls → r.fill = min m.fill c.capacity ∧ r.unverified = m.unverified) ∧
          (m.cls ≠ c.cls → r.fill = 0 ∧ r.unverified = true) ∧
          r.state = if r.fill = c.capacity ∨ (c.fullFitted = true ∧ s.pins.binFull.get b = true) then .full
            else if c.near ≤ 16 * r.fill / c.capacity then .near else .opened)) ∧
      (s.ej = Quad.all Ejector.reset → s.bins.recs = BinUnit.reset.recs →
        (∀ b, ((set.bins.get b).configured = true ∧ (set.bins.get b).homeFitted = true ∧ home.get b = false →
            t.ej.get b = { Ejector.reset with state := .fault } ∧ (t.bins.recs.get b).faultShown = true) ∧
          ((set.bins.get b).configured = false ∨ (set.bins.get b).homeFitted = false ∨ home.get b = true →
            t.ej.get b = Ejector.reset ∧ (t.bins.recs.get b).faultShown = false)) ∧
        (s.port.tx = .silent → s.ltu.ownQueue = [] →
          t.port.tx = .gap ∧ t.port.txTimer = some 8000 ∧
          t.ltu.ownQueue =
            [⟨0x11, 0, s.ctl.address, 32, encodeRoll ⟨true, set.gateDist, set.configuredBins.length, 0x31, 0x16, 0x02,
              digestOf image, set.exitX⟩ .run⟩, t.binstateFrame]))

/-- R178: the line-order check, and its code. -/
def Obligations.LineOrderCheck : Prop :=
  (∀ c : Settings, c.lineSequence =
    (c.configuredBins.map (fun b => [(c.bins.get b).line, (c.bins.get b).verify])).flatten ++ [c.exitX]) ∧
  (∀ c : Settings, c.configuredBins = [BinNo.bin1, .bin2, .bin3, .bin4].filter (fun b => (c.bins.get b).configured)) ∧
  (∀ c : Settings, c.lineOrderOk = true ↔
    c.lineSequence.Pairwise (fun a b => a < b) ∧
      ∀ b, (c.bins.get b).configured = true → c.lMax / 2 + 8 ≤ (c.bins.get b).line) ∧
  (∀ bs : List Byte, checksumOk bs = true → rangesOk bs = true →
    (checkImage bs = some 4 ↔ (settingsOf bs).lineOrderOk = false))

/-! ### The belt -/

/-- R11, R14, R17: a seam report sets the seam flag and changes nothing else; the watchdog stops with the belt-run line and
restarts when it turns on. -/
def Obligations.SeamReportAndBeltRunLine : Prop :=
  (∀ (s : State) (dt : Nat), s.running = true → s.bins.asked = false →
      ∃ t, exec (.seamReport dt) s = .next t ∧ t.pos = { (s.elapse dt).pos with seamFlag := true } ∧
        SameBut [.pos] (s.elapse dt) t) ∧
  (∀ (s : State) (dt : Nat) (on : Bool), s.running = true → on ≠ s.pins.beltRun → s.bins.asked = false →
      ∃ t, exec (.beltRunChange dt on) s = .next t ∧ t.pins = { s.pins with beltRun := on } ∧
        t.pos = { (s.elapse dt).pos with watchdog := if on then some (s.cfg.encoderMs * 1000000) else none } ∧
        SameBut [.pos, .pins] (s.elapse dt) t)

/-- R14 to R16: the encoder watchdog's expiry, by the condition, with the interval timer at the entry to FALLBACK. -/
def Obligations.WatchdogExpiryEntersFallback : Prop :=
  ∀ (s : State) (dt : Nat), s.running = true → s.pins.beltRun = true → RunsOut s.pos.watchdog dt →
    s.bins.asked = false →
    ∃ t, exec (.encoderWatchdogExpiry dt) s = .next t ∧ t.pos.watchdog = none ∧ t.pos.step = s.pos.step ∧
      t.pos.slot = s.pos.slot ∧ SameBut (.pos :: binstateParts) (s.elapse dt) t ∧
      (s.pos.cond = .normal ∨ s.pos.cond = .freeRun →
        t.pos.cond = .fallback ∧ t.pos.overrun = 0 ∧ t.pos.acc = 0 ∧ t.pos.missed = 0 ∧ t.pos.good = 0 ∧
          t.pos.trimSum = 0 ∧ t.pos.trimCount = 0 ∧
          t.pos.stepTimer = if s.pos.step < 63 then s.pos.period.map (fun p => p / 64 * 1000) else none) ∧
      (s.pos.cond = .normal → t.bins.periodTimer = some 500000000) ∧
      (s.pos.cond = .unsynced → t.pos = { (s.elapse dt).pos with watchdog := none }) ∧
      (s.pos.cond = .fallback → t.pos.cond = .fallback ∧ t.pos.qual = none)

/-- R1: the lengths of a slot's steps, and the raw pulses of a slot. R16: within a qualification slot of FALLBACK the divider counts by
R1 too; that its steps are numbered by the qualification's own count, those past 63 as overrun, is the model's reading (log 12). -/
def Obligations.StepLengthsOfSlot : Prop :=
  (∀ p : PositionUnit, p.cond ≠ .fallback → p.overrun = 0 →
    p.stepLength = if p.step < p.cur.m then p.cur.n + 1 else p.cur.n) ∧
  (∀ p : PositionUnit, p.cond ≠ .fallback → p.overrun ≠ 0 → p.stepLength = p.cur.n) ∧
  (∀ (p : PositionUnit) (m : Nat), m ≤ 63 → p.cur.m = m → p.cond ≠ .fallback → p.overrun = 0 →
    ((List.range 64).map (fun j => ({ p with step := j } : PositionUnit).stepLength)).sum = 64 * p.cur.n + m) ∧
  (∀ (p : PositionUnit) (c : Nat), p.cond = .fallback → p.qual = some c →
    (c < 64 → p.stepLength = if c < p.cur.m then p.cur.n + 1 else p.cur.n) ∧ (64 ≤ c → p.stepLength = p.cur.n))

/-- R1, R14: a raw pulse that does not complete a step is counted and restarts the watchdog; nothing else moves, but for the
mark that a pulse came in FALLBACK (R16). -/
def Obligations.PulseWithinStepIsCounted : Prop :=
  ∀ (s : State) (dt : Nat) (smp : Samples), s.running = true → s.bins.asked = false →
    s.pos.acc + 1 < s.pos.stepLength →
    ∃ t, exec (.rawPulse dt smp) s = .next t ∧
      t.pos = { (s.elapse dt).pos with
        acc := s.pos.acc + 1
        slotPulses := min 65535 (s.pos.slotPulses + 1)
        pulseSeen := s.pos.pulseSeen || decide (s.pos.cond = .fallback)
        watchdog := if s.pins.beltRun then some (s.cfg.encoderMs * 1000000) else none } ∧
      SameBut [.pos] (s.elapse dt) t

/-- R1, R3, R4, R14 to R16: a raw pulse that completes a step is counted and restarts the watchdog; then, by the condition and
the step-in-slot: a step, with its step event;
an encoder step counted toward a qualification, the gate standing; an overrun step below the mark guard, the gate standing.
The order in which the blocks take a step event is an operand (log 4), and so are the sensor events that its reservation
requests take (log 28). -/
def Obligations.PulseCompletesStep : Prop :=
  (∀ (s : State) (dt : Nat) (smp : Samples), s.running = true → s.bins.asked = false →
      s.pos.stepLength ≤ s.pos.acc + 1 →
      let counted := fun t : State => t.pos.slotPulses = min 65535 (s.pos.slotPulses + 1) ∧
        t.pos.watchdog = if s.pins.beltRun then some (s.cfg.encoderMs * 1000000) else none
      (s.pos.cond ≠ .fallback → s.pos.step < 63 →
        ∃ t, exec (.rawPulse dt smp) s = .next t ∧ counted t ∧ t.pos.step = s.pos.step + 1 ∧ t.pos.slot = s.pos.slot ∧
          t.pos.acc = 0 ∧ t.pos.overrun = s.pos.overrun ∧ t.pos.cond = s.pos.cond ∧ SameBut stepParts (s.elapse dt) t ∧
          ∃ s1 : State, s1.pos.gatePos = s.pos.gatePos + 1 ∧ SameBut [.pos] (s.elapse dt) s1 ∧
            t = (s1.stepEvent smp ⟨s.pos.gatePos + 1, some 1, false⟩).finish) ∧
      (s.pos.cond = .fallback →
        ∃ t, exec (.rawPulse dt smp) s = .next t ∧ counted t ∧ t.pos.acc = 0 ∧ t.pos.step = s.pos.step ∧ t.pos.slot = s.pos.slot ∧
          t.pos.qual = s.pos.qual.map (fun c => min 255 (c + 1)) ∧ SameBut [.pos] (s.elapse dt) t) ∧
      (s.pos.cond = .normal ∨ s.pos.cond = .unsynced → 63 ≤ s.pos.step → s.pos.overrun + 1 < s.cfg.guard →
        ∃ t, exec (.rawPulse dt smp) s = .next t ∧ counted t ∧ t.pos.acc = 0 ∧ t.pos.step = s.pos.step ∧ t.pos.slot = s.pos.slot ∧
          t.pos.overrun = s.pos.overrun + 1 ∧ SameBut [.pos] (s.elapse dt) t)) ∧
  (∀ (s : State) (smp : Samples) (ev : StepEvent), s.stepEvent smp ev =
    (smp.order.foldl (fun t part =>
      match part with
      | .gate => t.gateStep ev
      | .fire => t.fires ev
      | .verify => t.verifies ev
      | .track => t.trackStep ev) ((s.sample smp).setBetween smp.between)).settleWatches.setBetween [])

/-- R7, R9, R2, R11, R13: the overrun step that reaches the mark guard synthesises a boundary; in FREE-RUN a step that completes
at step-in-slot 63 makes one; a seam flag acts at either. Each issues its step event (R4): the guard's advance or 1, a
discontinuity mark at a seam outcome that forces the slot. A change of condition asks for a BINSTATE (R20, R111). The slot period is
measured (R13); that it is measured before the step event is the model's choice (log 35), and so are its rounding down to whole
microseconds (log 42), and that a missed mark's change to FREE-RUN comes at a seam slip too (log 39). -/
def Obligations.MissedMarkAndFreeRunBoundaries : Prop :=
  (∀ (s : State) (dt : Nat) (smp : Samples), s.running = true → s.pos.cond = .normal ∨ s.pos.cond = .unsynced →
      s.pos.stepLength ≤ s.pos.acc + 1 → 63 ≤ s.pos.step → s.cfg.guard ≤ s.pos.overrun + 1 →
      ∃ t, exec (.rawPulse dt smp) s = .next t ∧ t.pos.step = s.cfg.guard - 1 ∧ t.pos.overrun = 0 ∧ t.pos.acc = 0 ∧
        t.pos.slotPulses = 0 ∧ t.pos.slipFlag = true ∧ t.pos.seamFlag = false ∧ t.pos.trimSum = 0 ∧ t.pos.trimCount = 0 ∧
        t.pos.cur = s.pos.pend.getD s.pos.cur ∧ t.pos.pend = none ∧
        t.pos.sinceBoundary = some 0 ∧
        (∀ since, s.pos.sinceBoundary = some since → t.pos.period = some (min ((since + dt) / 1000) 67108863)) ∧
        (s.pos.seamFlag = false → t.pos.slot = (s.pos.slot + 1) % s.cfg.slots ∧
          t.pos.missed = min 2 (s.pos.missed + 1)) ∧
        (s.pos.seamFlag = true → t.pos.slot = 0) ∧
        (s.pos.seamFlag = true → s.pos.cond = .unsynced → t.pos.cond = .normal ∧ t.pos.missed = 0) ∧
        (s.pos.seamFlag = false → s.pos.cond = .unsynced → t.pos.cond = .unsynced) ∧
        (s.pos.cond = .normal → t.pos.cond = if 1 ≤ s.pos.missed then .freeRun else .normal) ∧
        (t.pos.cond ≠ s.pos.cond → t.bins.periodTimer = some 500000000) ∧
        SameBut stepParts (s.elapse dt) t ∧
        ∃ s1 ev, SameBut [.pos] (s.elapse dt) s1 ∧ t = ((s1.boundary .missed).stepEvent smp ev).finish ∧
          ev.pos = t.pos.gatePos ∧
          (s.pos.seamFlag = false ∨ (s.pos.cond = .normal ∧ s.pos.slot + 1 = s.cfg.slots) →
            (s.pos.step = 63 → 1 ≤ s.cfg.guard → ev.adv = some s.cfg.guard) ∧ ev.adv ≠ none ∧ ev.seamSlip = false) ∧
          (s.pos.seamFlag = true → s.pos.cond = .unsynced → ev.adv = none ∧ ev.seamSlip = false) ∧
          (s.pos.seamFlag = true → s.pos.cond = .normal → s.pos.slot + 1 ≠ s.cfg.slots →
            ev.adv = none ∧ ev.seamSlip = true)) ∧
  (∀ (s : State) (dt : Nat) (smp : Samples), s.running = true → s.pos.cond = .freeRun →
      s.pos.stepLength ≤ s.pos.acc + 1 → 63 ≤ s.pos.step →
      ∃ t, exec (.rawPulse dt smp) s = .next t ∧ t.pos.step = 0 ∧ t.pos.acc = 0 ∧ t.pos.slotPulses = 0 ∧
        t.pos.cond = .freeRun ∧ t.pos.slipFlag = s.pos.slipFlag ∧ t.pos.seamFlag = false ∧ t.pos.missed = s.pos.missed ∧
        t.pos.cur = s.pos.pend.getD s.pos.cur ∧ t.pos.pend = none ∧
        t.pos.sinceBoundary = some 0 ∧
        (∀ since, s.pos.sinceBoundary = some since → t.pos.period = some (min ((since + dt) / 1000) 67108863)) ∧
        (s.pos.seamFlag = false → t.pos.slot = (s.pos.slot + 1) % s.cfg.slots) ∧
        (s.pos.seamFlag = true → t.pos.slot = 0) ∧ SameBut stepParts (s.elapse dt) t ∧
        ∃ s1 ev, SameBut [.pos] (s.elapse dt) s1 ∧ t = ((s1.boundary .free).stepEvent smp ev).finish ∧
          ev.pos = t.pos.gatePos ∧
          (s.pos.seamFlag = false ∨ s.pos.slot + 1 = s.cfg.slots →
            (s.pos.step = 63 → ev.adv = some 1) ∧ ev.adv ≠ none ∧ ev.seamSlip = false) ∧
          (s.pos.seamFlag = true → s.pos.slot + 1 ≠ s.cfg.slots → ev.adv = none ∧ ev.seamSlip = true))

/-- R4, R6, R11 to R13: a mark that is not absorbed makes a boundary, with the pitch check, the missed-mark count's
clearing, the seam flag's outcome, the slot period and the step event. That a mark is absorbed after a boundary of FREE-RUN too is
log 15, what a slip leaves of the missed-mark count log 14. That the slot period is measured before the step event is the model's
choice (log 35), and so is that it is rounded down to whole microseconds (log 42). The synchronisation asks for a BINSTATE (R20,
R111). -/
def Obligations.MarkMakesBoundary : Prop :=
  ∀ (s : State) (dt : Nat) (smp : Samples), s.running = true → s.pos.cond = .normal ∨ s.pos.cond = .unsynced →
    s.pos.synthesised = false ∨ s.cfg.guard ≤ s.pos.step →
    ∃ t, exec (.slatMark dt smp) s = .next t ∧ t.pos.step = 0 ∧ t.pos.overrun = 0 ∧ t.pos.acc = 0 ∧
      t.pos.slotPulses = 0 ∧ t.pos.seamFlag = false ∧ t.pos.cur = s.pos.pend.getD s.pos.cur ∧
      t.pos.sinceBoundary = some 0 ∧
      (t.pos.slipFlag = true ↔
        (if s.pos.step = 63 then 64 + s.pos.overrun else s.pos.step + 1) ≤ 62 ∨
          66 ≤ (if s.pos.step = 63 then 64 + s.pos.overrun else s.pos.step + 1)) ∧
      (t.pos.slipFlag = false → t.pos.missed = 0) ∧
      (∀ since, s.pos.sinceBoundary = some since → t.pos.period = some (min ((since + dt) / 1000) 67108863)) ∧
      (s.pos.seamFlag = false → t.pos.slot = (s.pos.slot + 1) % s.cfg.slots ∧ t.pos.cond = s.pos.cond) ∧
      (s.pos.seamFlag = true → s.pos.cond = .unsynced →
        t.pos.slot = 0 ∧ t.pos.cond = .normal ∧ t.pos.missed = 0 ∧ t.pos.good = 0 ∧ t.pos.trimCount = 0) ∧
      (s.pos.seamFlag = true → s.pos.cond = .normal → t.pos.slot = 0 ∧ t.pos.cond = .normal) ∧
      (t.pos.cond ≠ s.pos.cond → t.bins.periodTimer = some 500000000) ∧
      SameBut stepParts (s.elapse dt) t ∧
      ∃ ev, t = (((s.elapse dt).boundary .marked).stepEvent smp ev).finish ∧ ev.pos = t.pos.gatePos ∧
        (s.pos.seamFlag = false ∨ (s.pos.cond = .normal ∧ s.pos.slot + 1 = s.cfg.slots) →
          ev.adv = some (64 - s.pos.step) ∧ ev.seamSlip = false) ∧
        (s.pos.seamFlag = true → s.pos.cond = .unsynced → ev.adv = none ∧ ev.seamSlip = false) ∧
        (s.pos.seamFlag = true → s.pos.cond = .normal → s.pos.slot + 1 ≠ s.cfg.slots →
          ev.adv = none ∧ ev.seamSlip = true)

/-- R8 to R10: the late mark of a synthesised boundary (of FREE-RUN too: log 15) is absorbed; a mark in FREE-RUN is measured, and the fourth in
tolerance returns to NORMAL, which asks for a BINSTATE (R20, R111). -/
def Obligations.MarksThatMakeNoBoundary : Prop :=
  (∀ (s : State) (dt : Nat) (smp : Samples), s.running = true → s.pos.cond = .normal ∨ s.pos.cond = .unsynced →
    s.pos.synthesised = true → s.pos.step < s.cfg.guard → s.bins.asked = false →
    ∃ t, exec (.slatMark dt smp) s = .next t ∧ t.pos = { (s.elapse dt).pos with missed := 0 } ∧
      SameBut [.pos] (s.elapse dt) t) ∧
  (∀ (s : State) (dt : Nat) (smp : Samples), s.running = true → s.pos.cond = .freeRun →
    ∃ t, exec (.slatMark dt smp) s = .next t ∧ t.pos.slot = s.pos.slot ∧ t.pos.step = s.pos.step ∧
      t.pos.acc = s.pos.acc ∧ SameBut (.pos :: binstateParts) (s.elapse dt) t ∧
      (1 < s.pos.step → s.pos.step ≠ 63 → t.pos.good = 0 ∧ t.pos.cond = .freeRun) ∧
      (s.pos.step ≤ 1 ∨ s.pos.step = 63 → s.pos.good ≠ 3 → t.pos.good = s.pos.good + 1 ∧ t.pos.cond = .freeRun) ∧
      (s.pos.step ≤ 1 ∨ s.pos.step = 63 → s.pos.good = 3 →
        t.pos.cond = .normal ∧ t.pos.good = 0 ∧ t.pos.missed = 0 ∧ t.pos.trimSum = 0 ∧ t.pos.trimCount = 0 ∧
        t.bins.periodTimer = some 500000000))

/-- R15, R16: a mark in FALLBACK makes a boundary without a pitch check; the one that closes a qualification slot of 63 to
65 encoder steps returns to NORMAL. That the count is one more than the completed steps is the model's reading (log 12), and so is when a
qualification opens (log 13). The pair is loaded (R2), the slot period measured (R13), the interval timed afresh while FALLBACK
lasts (R15), and the step event issued with the rest of the slot as its advance (R15), or with a discontinuity mark at a seam slip
(R12). The return to NORMAL asks for a BINSTATE (R20, R111). That the period is measured before the step event is the model's
choice (log 35), and so are its rounding down to whole microseconds (log 42), and that a qualification closed at a seam slip
returns to NORMAL (log 39). -/
def Obligations.FallbackMarkMakesBoundary : Prop :=
  ∀ (s : State) (dt : Nat) (smp : Samples), s.running = true → s.pos.cond = .fallback →
    ∃ t, exec (.slatMark dt smp) s = .next t ∧ t.pos.step = 0 ∧ t.pos.acc = 0 ∧ t.pos.trimCount = 0 ∧
      t.pos.seamFlag = false ∧ (s.pos.seamFlag = false → t.pos.slot = (s.pos.slot + 1) % s.cfg.slots) ∧
      (s.pos.seamFlag = true → t.pos.slot = 0) ∧ SameBut stepParts (s.elapse dt) t ∧
      (t.pos.cond ≠ s.pos.cond → t.bins.periodTimer = some 500000000) ∧
      (∀ c, s.pos.qual = some c → 63 ≤ c + 1 → c + 1 ≤ 65 → t.pos.cond = .normal ∧ t.pos.qual = none) ∧
      (∀ c, s.pos.qual = some c → c + 1 < 63 ∨ 65 < c + 1 →
        t.pos.cond = .fallback ∧ t.pos.qual = some 0 ∧ t.pos.slipFlag = s.pos.slipFlag) ∧
      (s.pos.qual = none → t.pos.cond = .fallback ∧ t.pos.slipFlag = s.pos.slipFlag ∧
        t.pos.qual = if s.pos.pulseSeen = true ∧ s.pos.watchdog.isSome = true then some 0 else none) ∧
      (t.pos.cur = s.pos.pend.getD s.pos.cur ∧ t.pos.pend = none ∧ t.pos.overrun = 0 ∧ t.pos.slotPulses = 0 ∧
        t.pos.sinceBoundary = some 0 ∧
        t.pos.stepTimer = (if t.pos.cond = .fallback then t.pos.period.map (fun p => p / 64 * 1000) else none) ∧
        (∀ since, s.pos.sinceBoundary = some since → t.pos.period = some (min ((since + dt) / 1000) 67108863))) ∧
      ∃ s1 k ev, SameBut [.pos] (s.elapse dt) s1 ∧ t = ((s1.boundary k).stepEvent smp ev).finish ∧
        ev.pos = t.pos.gatePos ∧
        (s.pos.seamFlag = false ∨ s.pos.slot + 1 = s.cfg.slots →
          ev.adv = some (64 - s.pos.step) ∧ ev.seamSlip = false) ∧
        (s.pos.seamFlag = true → s.pos.slot + 1 ≠ s.cfg.slots → ev.adv = none ∧ ev.seamSlip = true)

/-- R15: a synthesised step in FALLBACK, with its step event of advance 1, and the next interval. -/
def Obligations.FallbackStepAdvancesGate : Prop :=
  ∀ (s : State) (dt : Nat) (smp : Samples), s.running = true → s.pos.cond = .fallback → s.pins.beltRun = true →
    s.pos.step < 63 → RunsOut s.pos.stepTimer dt →
    ∃ t, exec (.fallbackStep dt smp) s = .next t ∧ t.pos.step = s.pos.step + 1 ∧ t.pos.slot = s.pos.slot ∧
      t.pos.cond = .fallback ∧
      t.pos.stepTimer = (if s.pos.step + 1 < 63 then s.pos.period.map (fun p => p / 64 * 1000) else none) ∧
      SameBut stepParts (s.elapse dt) t ∧
      ∃ s1, s1.pos.gatePos = s.pos.gatePos + 1 ∧ SameBut [.pos] (s.elapse dt) s1 ∧
        t = (s1.stepEvent smp ⟨s.pos.gatePos + 1, some 1, false⟩).finish

/-- R6, R7, R12: what a boundary adds to the pitch-slip counter: one for its own slip or missed mark, one for a seam slip. -/
def Obligations.BoundaryCountsPitchSlips : Prop :=
  ∀ (s : State) (k : BoundaryKind),
    let own := k = .missed ∨ ((k = .marked ∨ k = .returning) ∧ s.pos.slips = true)
    let seam := s.pos.seamFlag = true ∧ s.pos.cond ≠ .unsynced ∧ s.pos.slot + 1 ≠ s.cfg.slots
    (own → seam → (s.boundary k).counters = (s.counters.bump .pitchSlips).bump .pitchSlips) ∧
    (own → ¬ seam → (s.boundary k).counters = s.counters.bump .pitchSlips) ∧
    (¬ own → seam → (s.boundary k).counters = s.counters.bump .pitchSlips) ∧
    (¬ own → ¬ seam → (s.boundary k).counters = s.counters)

/-- R2, R18, R19: the trim of sixteen marked slots, and the divider pair at a boundary. That the trim result is compared with
the pair in force before the boundary loads one is the model's reading (log 16). What a seam slip leaves of the
sum, where R12 and R18 differ, is a free value (log 27). -/
def Obligations.TrimWindowGivesPair : Prop :=
  (∀ s : State, s.pos.cond = .normal → s.pos.trimOpen = true → s.pos.seam s.cfg.slots ≠ .slip →
    let t := s.boundary .marked
    let sum := s.pos.trimSum + s.pos.slotPulses
    let r := (sum + 8) / 16
    t.pos.trimOpen = true ∧
    (s.pos.trimCount < 15 →
      t.pos.trimSum = sum ∧ t.pos.trimCount = s.pos.trimCount + 1 ∧ t.pos.pend = none) ∧
    (s.pos.trimCount = 15 → t.pos.trimSum = 0 ∧ t.pos.trimCount = 0 ∧
      (64 ≤ r → r ≤ 16383 → r ≠ 64 * s.pos.cur.n + s.pos.cur.m → t.pos.pend = some ⟨r / 64, r % 64⟩) ∧
      (r < 64 ∨ 16383 < r ∨ r = 64 * s.pos.cur.n + s.pos.cur.m → t.pos.pend = none))) ∧
  (∀ (s : State) (k : BoundaryKind), k ≠ .marked ∨ s.pos.cond ≠ .normal →
    (s.boundary k).pos.trimSum = 0 ∧ (s.boundary k).pos.trimCount = 0) ∧
  (∀ s : State, s.pos.cond = .normal → s.pos.seam s.cfg.slots = .slip →
    (s.boundary .marked).pos.trimSum = (if Config.seamSlipKeepsTrim then s.pos.trimSum else 0) ∧
    (s.boundary .marked).pos.trimCount = (if Config.seamSlipKeepsTrim then s.pos.trimCount else 0) ∧
    (s.boundary .marked).pos.pend = none) ∧
  (∀ (s : State) (k : BoundaryKind),
    (∀ p, s.pos.pend = some p → (s.boundary k).pos.cur = p ∧ (s.boundary k).retention.pair = p ∧
      (s.boundary k).retention.nominal = s.cfg.nominal) ∧
    (s.pos.pend = none → (s.boundary k).pos.cur = s.pos.cur ∧ (s.boundary k).retention = s.retention))

/-! ### The gate and the classifier -/

/-- R34 to R38: an oscillator edge raises the window count, which holds at 65535; a coil window's close updates the fault
state, the baseline and the open detection's metal and opens the next window; each completing detection gathers the window
and is handed over, the oldest first, and nothing is left completing (R31); the sensor events that the hand-overs' requests
take are an operand (log 28). That an absent baseline is gathered while the coil fault flag is set is the model's reading
(log 32). -/
def Obligations.CoilWindowCountsAndCloses : Prop :=
  (∀ (s : State) (dt : Nat), s.running = true → s.bins.asked = false →
    ∃ t, exec (.oscillatorEdge dt) s = .next t ∧
      t.gate = { (s.elapse dt).gate with windowCount := min 65535 (s.gate.windowCount + 1) } ∧
      SameBut [.gate] (s.elapse dt) t) ∧
  (∀ (s : State) (dt : Nat) (close : WindowClose), s.running = true → RunsOut s.gate.windowTimer dt →
    ∃ t, exec (.coilWindowClose dt close) s = .next t ∧ t.gate.windowCount = 0 ∧
      t.gate.windowTimer = some (s.cfg.windowMs * 1000000) ∧ t.gate.completing = [] ∧ t.gate.state = s.gate.state ∧
      t.gate.beams = s.gate.beams ∧ t.gate.overRange = decide (s.gate.windowCount = 65535) ∧
      (s.gate.windowCount < s.cfg.coilFloor →
        t.gate.lowRun = min 2 (s.gate.lowRun + 1) ∧ t.gate.goodRun = 0 ∧
          t.gate.coilFault = (s.gate.coilFault || decide (1 ≤ s.gate.lowRun))) ∧
      (s.cfg.coilFloor ≤ s.gate.windowCount →
        t.gate.goodRun = min 4 (s.gate.goodRun + 1) ∧ t.gate.lowRun = 0 ∧
          t.gate.coilFault = (s.gate.coilFault && decide (s.gate.goodRun < 3))) ∧
      (s.gate.windowClear = true → close.opening = false → s.cfg.coilFloor ≤ s.gate.windowCount → s.gate.windowCount < 65535 →
        (∀ b, s.gate.baseline = some b →
          (t.gate.coilFault = true → t.gate.baseline = some b) ∧
          (t.gate.coilFault = false → t.gate.baseline = some
            (if b < s.gate.windowCount then b + (s.gate.windowCount - b) / 8
              else b - (b - s.gate.windowCount) / 8))) ∧
        (s.gate.baseline = none → s.gate.tally = 7 →
          t.gate.baseline = some ((s.gate.baseSum + s.gate.windowCount) / 8)) ∧
        (s.gate.baseline = none → s.gate.tally < 7 → t.gate.baseline = none ∧ t.gate.tally = s.gate.tally + 1 ∧
          t.gate.baseSum = s.gate.baseSum + s.gate.windowCount)) ∧
      (s.gate.windowClear = false ∨ close.opening = true ∨ s.gate.windowCount < s.cfg.coilFloor ∨ s.gate.windowCount = 65535 →
        t.gate.baseline = s.gate.baseline ∧ t.gate.tally = s.gate.tally ∧ t.gate.baseSum = s.gate.baseSum) ∧
      (∀ r, s.gate.detection = some r →
        (∀ b, s.gate.baseline = some b → s.cfg.coilFloor ≤ s.gate.windowCount → s.gate.windowCount < 65535 →
          t.gate.coilFault = false → t.gate.detection = some { r with
            metal := some (max (r.metal.getD 0) (min 4095 (max (s.gate.windowCount - b) (b - s.gate.windowCount)))) }) ∧
        (s.gate.baseline = none ∨ s.gate.windowCount < s.cfg.coilFloor ∨ s.gate.windowCount = 65535 ∨
          t.gate.coilFault = true → t.gate.detection = some r)) ∧
      (∃ (s1 : State) (done : List Detection), SameBut [.gate] (s.elapse dt) s1 ∧
        t = ((done.foldl State.handOver (s1.setBetween close.between)).setBetween []).finish ∧ done.length = s.gate.completing.length ∧
        ∀ (k : Nat) (d : Detection), s.gate.completing[k]? = some d → ∃ m, done[k]? = some { d with metal := m } ∧
          (t.gate.coilFault = true → m = none) ∧
          (t.gate.coilFault = false →
            (∀ b, s.gate.baseline = some b → s.cfg.coilFloor ≤ s.gate.windowCount → s.gate.windowCount < 65535 →
              m = some (max (d.metal.getD 0) (min 4095 (max (s.gate.windowCount - b) (b - s.gate.windowCount))))) ∧
            (s.gate.baseline = none ∨ s.gate.windowCount < s.cfg.coilFloor ∨ s.gate.windowCount = 65535 →
              m = d.metal))) ∧
      SameBut [.retention, .gate, .trk, .bins, .ej, .port, .ltu, .counters] (s.elapse dt) t)

/-- R24, R25: the stuck run masks a beam, the clear run unmasks it, and a step event with an advance brings every beam its
report. -/
def Obligations.BeamsMaskAndUnmask : Prop :=
  (∀ (b : Beam) (level : BeamLevel) (adv : Nat),
    (b.masked = false → level = .clear → b.update level adv = { b with stuck := 0 }) ∧
    (b.masked = false → level ≠ .clear → b.stuck + adv < 1024 → b.update level adv = { b with stuck := b.stuck + adv }) ∧
    (b.masked = false → level ≠ .clear → 1024 ≤ b.stuck + adv → b.update level adv = ⟨true, 1024, 0⟩) ∧
    (b.masked = true → level ≠ .clear → b.update level adv = { b with clear := 0 }) ∧
    (b.masked = true → level = .clear → b.clear + adv < 64 → b.update level adv = { b with clear := b.clear + adv }) ∧
    (b.masked = true → level = .clear → 64 ≤ b.clear + adv →
      (b.update level adv).masked = false ∧ (b.update level adv).stuck = 0)) ∧
  (∀ (s : State) (ev : StepEvent),
    (s.gate.state = .held → s.gateStep ev = s) ∧
    (ev.adv = none → (s.gateStep ev).gate.beams = s.gate.beams) ∧
    (∀ a, s.gate.state ≠ .held → ev.adv = some a → s.pins.curtain.length = s.gate.beams.length →
      (s.gateStep ev).gate.beams.length = s.gate.beams.length ∧
      ∀ (k : Nat) (b : Beam) (l : BeamLevel), s.gate.beams[k]? = some b → s.pins.curtain[k]? = some l →
        (s.gateStep ev).gate.beams[k]? = some (b.update l a)))

/-- R26 to R30, R33: what a sample does in each gate state, and what a discontinuity does, with its abandonment
notices (R62); the queue of completing detections at a close (R31); the masked sample that a step event
gives the curtain (R23, R27); and the close that finds four detections completing (R32). -/
def Obligations.SamplesOpenAndCloseDetections : Prop :=
  (∀ (s : State) (pos : Nat) (c : CurtainSample), s.gate.state = .idle →
    (c.occupied = true → (s.detect pos c).gate.state = .opened ∧ (s.detect pos c).trk.link = s.trk.link ++ [pos] ∧
      (s.detect pos c).gate.detection = some ⟨pos, none, c.high, c.notClear, c.dim, none⟩) ∧
    (c.occupied = false → s.detect pos c = s)) ∧
  (∀ (s : State) (pos : Nat) (c : CurtainSample), s.gate.state = .waitClear →
    (c.occupied = true → s.detect pos c = s) ∧
    (c.occupied = false → s.detect pos c = s.setGate { s.gate with state := .idle })) ∧
  (∀ (s : State) (pos : Nat) (c : CurtainSample) (r : OpenRecord), s.gate.state = .opened →
    s.gate.detection = some r →
    let past := fun q => posSub s.cfg.span q r.lead
    let start := r.clearStart.getD pos
    let dim := (r.dim + c.dim) * 16 / (r.notClear + c.notClear)
    let cut : Detection :=
      ⟨r.lead, (r.lead + s.cfg.lMax) % s.cfg.span, s.cfg.lMax, true, r.height, r.dim * 16 / r.notClear, r.metal⟩
    (c.occupied = true → past pos < s.cfg.lMax →
      (s.detect pos c).gate.state = .opened ∧ (s.detect pos c).gate.detection = some
        ⟨r.lead, none, max r.height c.high, r.notClear + c.notClear, r.dim + c.dim, r.metal⟩) ∧
    (c.occupied = true → s.cfg.lMax ≤ past pos →
      (s.detect pos c).gate.state = .waitClear ∧ (s.detect pos c).gate.detection = none ∧
        (s.detect pos c).gate.completing.getLast? = some { cut with height := max r.height c.high, dim := dim } ∧
        s.detect pos c = s.closing { cut with height := max r.height c.high, dim := dim } .waitClear) ∧
    (c.occupied = false → s.cfg.lMax ≤ past start →
      (s.detect pos c).gate.state = .idle ∧ (s.detect pos c).gate.detection = none ∧
        (s.detect pos c).gate.completing.getLast? = some cut ∧ s.detect pos c = s.closing cut .idle) ∧
    (c.occupied = false → past start < s.cfg.lMax → s.cfg.gapBridge ≤ posSub s.cfg.span pos start →
      (s.detect pos c).gate.state = .idle ∧ (s.detect pos c).gate.detection = none ∧
        (s.detect pos c).gate.completing.getLast? =
          some { cut with trailing := start, length := past start, overlong := false } ∧
        s.detect pos c = s.closing { cut with trailing := start, length := past start, overlong := false } .idle) ∧
    (c.occupied = false → past start < s.cfg.lMax → posSub s.cfg.span pos start < s.cfg.gapBridge →
      s.detect pos c = s.setGate { s.gate with detection := some { r with clearStart := some start } })) ∧
  (∀ (s : State) (c : CurtainSample),
    (s.discontinuity c).gate.detection = none ∧ (s.discontinuity c).gate.completing = [] ∧
    (s.discontinuity c).gate.state = (if c.occupied then .waitClear else .idle) ∧
    SameBut [.gate, .trk] s (s.discontinuity c) ∧
    let leads := s.gate.detection.toList.map (fun r => r.lead) ++ s.gate.completing.map (fun d => d.lead)
    (s.discontinuity c).trk = { s.trk with link := leads.foldl (fun l lead => l.erase lead) s.trk.link }) ∧
  (∀ (s : State) (d : Detection) (after : GateState), s.gate.completing.length < 4 → s.closing d after =
    s.setGate { s.gate with state := after, detection := none, completing := s.gate.completing ++ [d] }) ∧
  (∀ (beams : List Beam) (levels : List BeamLevel), levels.length = beams.length →
    let c := maskedSample 1 beams levels
    let seen := (beams.zip levels).filter (fun x => !x.1.masked && decide (x.2 ≠ .clear))
    c.notClear = seen.length ∧ c.dim = (seen.filter (fun x => decide (x.2 = .dim))).length ∧
    (c.occupied = true ↔ seen ≠ []) ∧ (seen = [] → c.high = 0) ∧
    (seen ≠ [] → ∃ b l, (beams.zip levels)[c.high - 1]? = some (b, l) ∧ b.masked = false ∧ l ≠ .clear ∧ 1 ≤ c.high) ∧
    ∀ k b l, (beams.zip levels)[k]? = some (b, l) → b.masked = false → l ≠ .clear → k + 1 ≤ c.high) ∧
  (∀ (s : State) (ev : StepEvent), s.gate.state ≠ .held →
    let s1 := s.setGate { s.gate with beams := (s.gateStep ev).gate.beams }
    let c := maskedSample 1 (s.gateStep ev).gate.beams s.pins.curtain
    let s2 := if ev.adv = none then s1.discontinuity c else s1.detect ev.pos c
    s.gateStep ev = s2.setGate { s2.gate with windowClear := s2.gate.windowClear && decide (s2.gate.state = .idle) }) ∧
  (∀ (s : State) (d oldest : Detection) (rest : List Detection) (after : GateState),
    s.gate.completing = oldest :: rest → 4 ≤ s.gate.completing.length →
    ∃ s1 : State, s1.gate = { s.gate with state := after, detection := none, completing := rest } ∧
      SameBut [.gate] s s1 ∧ s.closing d after = (s1.handOver oldest).setGate { s1.gate with completing := rest ++ [d] })

/-- R45, R46, R48: the class code of a request. That an empty table, for which R42 calls every item UNKNOWN, takes a trusted class
too is the model's choice (log 33). -/
def Obligations.ClassCodeByFirstMatch : Prop :=
  (∀ (r : ClassRule) (q : ClassRequest), r.matches q = true ↔
    (r.lenLo ≤ q.length ∧ q.length ≤ r.lenHi) ∧ (r.heightLo ≤ q.height ∧ q.height ≤ r.heightHi) ∧
    (r.dimLo ≤ q.dim ∧ q.dim ≤ r.dimHi) ∧
    (r.metal = none ∨ ∃ lo hi m, r.metal = some (lo, hi) ∧ q.metal = some m ∧ lo ≤ m ∧ m ≤ hi)) ∧
  (∀ (table : List ClassRule) (q : ClassRequest),
    (q.forced = true → classify table q = 0) ∧
    (q.forced = false → q.overlong = true → classify table q = 0) ∧
    (q.forced = false → q.overlong = false →
      (∀ before r after, table = before ++ r :: after → (∀ x ∈ before, x.matches q = false) → r.matches q = true →
        classify table q = r.cls) ∧
      ((∀ x ∈ table, x.matches q = false) →
        (∀ c, q.basis = some (c, true) → c ≠ 0 → classify table q = c) ∧
        ((q.basis = none ∨ (∃ c, q.basis = some (c, false)) ∨ q.basis = some (0, true)) → classify table q = 0))))

/-! ### Tickets and items -/

/-- R66 to R70: what the number of candidates makes of a detection. At a merge the nearest candidate keeps its identity, the
earlier on a tie, and the ids of the others are appended one by one. -/
def Obligations.PlacementByCandidates : Prop :=
  (∀ (span : Nat) (d : Detection),
    let p := placement span d []
    p.stray = true ∧ p.counter = .strays ∧ p.basis = none ∧ p.forced = false ∧ p.ticket.lead = d.lead ∧
      p.ticket.length = d.length ∧ p.ticket.overlong = d.overlong ∧ p.ticket.height = d.height ∧ p.ticket.dim = d.dim ∧
      p.ticket.metal = d.metal ∧ p.ticket.passes = 0 ∧ p.ticket.lastReason = none ∧ p.ticket.missed = 0 ∧
      p.ticket.merged = []) ∧
  (∀ (span : Nat) (d : Detection) (e : ExpectEntry),
    let p := placement span d [e]
    p.stray = false ∧ p.counter = .matched ∧ p.basis = some (e.ticket.cls, e.trust) ∧ p.forced = false ∧
      p.ticket = { e.ticket with lead := d.lead, length := d.length, overlong := d.overlong, height := d.height,
                                 dim := d.dim, metal := largerMetal e.ticket.metal d.metal }) ∧
  (∀ (span : Nat) (d : Detection) (e f : ExpectEntry) (rest : List ExpectEntry),
    let p := placement span d (e :: f :: rest)
    let far := fun x : ExpectEntry => (signedDiff span x.ticket.lead d.lead).natAbs
    p.stray = false ∧ p.counter = .merges ∧ p.basis = none ∧
      ∃ before k after, e :: f :: rest = before ++ k :: after ∧ (∀ x ∈ before, far k < far x) ∧
        (∀ x ∈ after, far k ≤ far x) ∧
        let others := (e :: f :: rest).filter (fun x => decide (x.ticket.id ≠ k.ticket.id))
        let ids := others.flatMap (fun x => x.ticket.id :: x.ticket.merged)
        (((e :: f :: rest).map (fun x => x.ticket.id)).Nodup → others = before ++ after) ∧
        (k.ticket.missed ≤ p.ticket.missed ∧ ∀ x ∈ others, x.ticket.missed ≤ p.ticket.missed) ∧
        (p.ticket.missed = k.ticket.missed ∨ ∃ x ∈ others, p.ticket.missed = x.ticket.missed) ∧
        p.forced = (appendIds k.ticket.id k.ticket.merged ids).2 ∧
        p.ticket = { k.ticket with lead := d.lead, length := d.length, overlong := d.overlong, height := d.height,
                                   dim := d.dim, metal := largerMetal k.ticket.metal d.metal, missed := p.ticket.missed,
                                   merged := (appendIds k.ticket.id k.ticket.merged ids).1 }) ∧
  (∀ (own : TicketId) (l : List TicketId), appendIds own l [] = (l, false)) ∧
  (∀ (own i : TicketId) (l ids : List TicketId),
    (i = own ∨ i ∈ l → appendIds own l (i :: ids) = appendIds own l ids) ∧
    (i ≠ own → i ∉ l → l.length < 3 → appendIds own l (i :: ids) = appendIds own (l ++ [i]) ids) ∧
    (i ≠ own → i ∉ l → 3 ≤ l.length → appendIds own l (i :: ids) = ((appendIds own l ids).1, true))) ∧
  (∀ a b : Nat, largerMetal (some a) (some b) = some (max a b) ∧ largerMetal (some a) none = some a ∧
    largerMetal none (some b) = some b ∧ largerMetal none none = none)

/-- R54 to R60, R82 to R84: the content check (R54), and the fate of an arriving ticket. -/
def Obligations.TicketArrivalFate : Prop :=
  (∀ k : Ticket, k.contentOk = true ↔
    (1 ≤ k.id.origin ∧ k.id.origin ≤ 16) ∧ (1 ≤ k.length ∧ k.length ≤ 1023) ∧ k.cls ≤ 13 ∧
    (1 ≤ k.height ∧ k.height ≤ 12) ∧ k.dim ≤ 16 ∧ (∀ m, k.metal = some m → m ≤ 4095) ∧
    k.merged.length ≤ 3 ∧ (∀ i ∈ k.merged, 1 ≤ i.origin ∧ i.origin ≤ 16) ∧ k.merged.Nodup ∧ k.id ∉ k.merged) ∧
  ∀ (s : State) (origin : Nat) (payload : List Byte),
    let k := decodeTicket payload
    let d := s.dist (k.lead % s.cfg.span)
    let new : ExpectEntry := ⟨{ k with lead := k.lead % s.cfg.span }, s.trusts origin, s.ctl.clock⟩
    let by_dist := fun x : ExpectEntry => s.dist x.ticket.lead
    let r := s.ticketArrival origin payload
    let heldTransit := s.trk.transit.any (fun e => e.ticket.id == k.id)
    let heldExpect := s.trk.expect.any (fun e => e.ticket.id == k.id)
    let near := fun e : TransitEntry =>
      decide ((signedDiff s.cfg.span e.ticket.lead (k.lead % s.cfg.span)).natAbs ≤ s.cfg.matchW)
    let w : Int := s.cfg.matchW
    (s.trusts origin = true ↔ ∃ p, s.peer origin = some p ∧ p.digestEqual = true) ∧
    (k.contentOk = false → r = s.count .untracked) ∧
    (k.contentOk = true → s.pos.cond = .unsynced → r = s.count .untracked) ∧
    (k.contentOk = true → s.pos.cond ≠ .unsynced →
      (heldTransit = true ∨ 2048 < d → r = s.count .untracked) ∧
      (heldTransit = false → d ≤ 2048 → heldExpect = true → d < -w → r = s.count .untracked) ∧
      (heldTransit = false → d ≤ 2048 → heldExpect = true → -w ≤ d →
        r = s.setExpect r.trk.expect ∧
        InsertedByDist by_dist new (s.trk.expect.filter (fun e => decide (e.ticket.id ≠ k.id))) r.trk.expect ∧
        ((s.trk.expect.map (fun e => e.ticket.id)).Nodup → r.trk.expect.length = s.trk.expect.length)) ∧
      (heldTransit = false → d ≤ 2048 → heldExpect = false → -w ≤ d → s.trk.expect.length < 32 →
        r = s.setExpect r.trk.expect ∧ InsertedByDist by_dist new s.trk.expect r.trk.expect) ∧
      (heldTransit = false → heldExpect = false → -w ≤ d → d ≤ 2048 → 32 ≤ s.trk.expect.length →
        (∀ far, s.trk.expect.getLast? = some far →
          (s.dist far.ticket.lead ≤ d → r = s.count .untracked) ∧
          (d < s.dist far.ticket.lead → r = (s.setExpect r.trk.expect).count .untracked ∧
            InsertedByDist by_dist new s.trk.expect.dropLast r.trk.expect))) ∧
      (heldTransit = false → heldExpect = false → d < -w → d < -(s.cfg.exitX : Int) → r = s.count .lateDropped) ∧
      (heldTransit = false → heldExpect = false → d < -w → -(s.cfg.exitX : Int) ≤ d →
        ((∀ e ∈ s.trk.transit, e.localStray = true → near e = false) → r = s.count .lateDropped) ∧
        (∀ before e after, s.trk.transit = before ++ e :: after → e.localStray = true → near e = true →
          (∀ x ∈ before, x.localStray = true → near x = false) →
          r = (s.setTransit (s.trk.transit.map (fun x => if x.ref = e.ref then
            { x with
              localStray := false
              ticket := { x.ticket with
                id := k.id, passes := k.passes, lastReason := k.lastReason,
                missed := min 3 (k.missed + x.ticket.missed)
                merged := if x.ticket.id = k.id ∨ x.ticket.id ∈ k.merged ∨ 3 ≤ k.merged.length then k.merged
                  else k.merged ++ [x.ticket.id]
                cls := if x.ticket.id ≠ k.id ∧ x.ticket.id ∉ k.merged ∧ 3 ≤ k.merged.length then 0
                  else x.ticket.cls } } else x))).count .adopted)))

/-- R53, R62 to R65: expiry at a step event and after a placement, a detection handed over in UNSYNCED, and the serial, the
first from the counter whose id no entry of either list holds. The
trailing-edge event in a tracking condition: the candidates (R66), the placement's steps (R71, R72), and the insertion with
its reference and its place (R78, R79, R87). -/
def Obligations.ExpiryAndHandOver : Prop :=
  (∀ s : State,
    let w : Int := s.cfg.matchW
    (s.trk.link ≠ [] → s.expireAtStep = s) ∧
    (s.trk.link = [] →
      s.expireAtStep.trk.expect = s.trk.expect.filter (fun e => decide (-w ≤ s.dist e.ticket.lead)) ∧
      (s.counters.get .lost ≤ 65535 → s.expireAtStep.counters.get .lost = min 65535
        (s.counters.get .lost + (s.trk.expect.length - s.expireAtStep.trk.expect.length)))) ∧
    (∀ e, e ∈ s.expireAfterPlacement.trk.expect ↔ e ∈ s.trk.expect ∧
      (-w ≤ s.dist e.ticket.lead ∨
        ∃ oldest rest, s.trk.link = oldest :: rest ∧
          s.dist (posSub s.cfg.span oldest s.cfg.matchW) ≤ s.dist e.ticket.lead)) ∧
    (∀ d, s.pos.cond = .unsynced → (s.handOver d).trk = { s.trk with link := s.trk.link.erase d.lead } ∧
      (s.handOver d).counters = s.counters.bump .untracked) ∧
    (∀ d, s.pos.cond ≠ .unsynced → s.handOver d =
      ((s.setTrk { s.trk with link := s.trk.link.erase d.lead }).place d).expireAfterPlacement) ∧
    (s.trk.holdsId ⟨s.ctl.address, s.trk.serial⟩ = false → s.nextSerial = s.trk.serial) ∧
    (let tried := fun j : Nat => if j = 0 then s.trk.serial else (s.trk.serial + j) % 4096
     ∃ k, k ≤ 81 ∧ s.nextSerial = tried k ∧ (∀ j, j < k → s.trk.holdsId ⟨s.ctl.address, tried j⟩ = true) ∧
       (k < 81 → s.trk.holdsId ⟨s.ctl.address, s.nextSerial⟩ = false) ∧
       (s.trk.expect.length + s.trk.transit.length ≤ 80 → k ≤ 80)) ∧
    (∀ i : TicketId, s.trk.holdsId i = true ↔
      (∃ e ∈ s.trk.expect, e.ticket.id = i) ∨ ∃ e ∈ s.trk.transit, e.ticket.id = i) ∧
    (∀ n, (s.advanceSerial n).trk.serial = (n + 1) % 4096 ∧ (s.advanceSerial n).retention.serial = (n + 1) % 4096)) ∧
  (∀ (s : State) (d : Detection) (e : ExpectEntry), 0 < s.cfg.span →
    let first := posSub s.cfg.span d.lead s.cfg.matchW
    (s.candidate d e = true ↔
      ∃ i, i ≤ posSub s.cfg.span d.trailing first ∧ (first + i) % s.cfg.span = e.ticket.lead % s.cfg.span)) ∧
  (∀ (s : State) (d : Detection),
    let p := placement s.cfg.span d (s.trk.expect.filter (s.candidate d))
    let s1 := s.setExpect (s.trk.expect.filter (fun e => !s.candidate d e))
    let q : ClassRequest :=
      ⟨p.ticket.length, p.ticket.height, p.ticket.dim, p.ticket.metal, p.ticket.overlong, p.forced, p.basis⟩
    let t : Ticket := { p.ticket with cls := classify s.classifier.table q }
    (48 ≤ s.trk.transit.length → s.place d = s1.count .untracked) ∧
    (s.trk.transit.length < 48 → p.stray = true → s.place d =
      (s1.advanceSerial s1.nextSerial).insertItem { t with id := ⟨s.ctl.address, s1.nextSerial⟩ } true .strays) ∧
    (s.trk.transit.length < 48 → p.stray = false → s.place d = s1.insertItem t false p.counter)) ∧
  (∀ (s : State) (t : Ticket) (stray : Bool) (k : Counter), s.trk.transit.length < 48 →
    ∃ ref, (∀ e ∈ s.trk.transit, e.ref ≠ ref) ∧
      ((∀ e ∈ s.trk.transit, e.ref ≠ s.trk.refCount) → ref = s.trk.refCount) ∧
      let d := (s.setTrk { s.trk with refCount := (ref + 1) % 256 }).decision ref t
      let reached := decide (s.dist ((t.lead + s.cfg.exitX + t.length - 1) % s.cfg.span) ≤ 0)
      s.insertItem t stray k = ((d.1.insertTransit ⟨t, ref, d.2, stray, reached, reached⟩).count k).decideExit ref) ∧
  (∀ (s : State) (e : TransitEntry),
    InsertedByDist (fun x => s.dist x.ticket.lead) e s.trk.transit (s.insertTransit e).trk.transit)

/-- R87 to R91: an entry in PASS whose exit extent is crossed is released or has vanished; any other stays. -/
def Obligations.ExitDecidesPassedEntries : Prop :=
  ∀ (s : State) (ref : Nat) (e : TransitEntry), s.entry ref = some e →
    ((∀ r, e.state ≠ .pass r) ∨ e.exitDone = false → s.decideExit ref = s) ∧
    (∀ r, e.state = .pass r → e.exitDone = true →
      (s.decideExit ref).trk.transit = s.trk.transit.filter (fun x => x.ref != ref) ∧
      (e.exitBlocked = false → (s.decideExit ref).counters = s.counters.bump .vanished ∧
        (s.decideExit ref).ltu = s.ltu) ∧
      (e.exitBlocked = true → s.nextPeer = none →
        (s.decideExit ref).counters = s.counters.bump .toEndCatch ∧
        (e.ticket.cls = 13 → (s.decideExit ref).trk.foreignPulse = some 2000000000) ∧
        (e.ticket.cls ≠ 13 → (s.decideExit ref).trk.foreignPulse = s.trk.foreignPulse)) ∧
      (∀ p, e.exitBlocked = true → s.nextPeer = some p → s.port.link ≠ .bypassed → s.port.tx ≠ .free →
        s.ltu.ownQueue.length < 8 →
        (s.decideExit ref).counters = s.counters.bump .passedToPeer ∧
        (s.decideExit ref).ltu.ownQueue = s.ltu.ownQueue ++
          [⟨0x22, p.address, s.ctl.address, 32, encodeTicket
            { e.ticket with passes := min 15 (e.ticket.passes + 1), lastReason := some r } false⟩]))

/-- R92, R134: the flush of a seam slip: the lists, the schedules and the watches, and the pending count of each bin lowered by one
for each SCHEDULED entry and each attached FIRED one that names it; and the Tracking Unit's work at a step event with and without one. -/
def Obligations.FlushEmptiesListsAndWatches : Prop :=
  (∀ s : State, s.flush.trk.expect = [] ∧ s.flush.trk.transit = [] ∧ (∀ b, (s.flush.ej.get b).watch = []) ∧
    s.flush.trk.serial = s.trk.serial ∧
    (∀ e ∈ s.trk.transit, ∀ b fp, e.state = .scheduled b fp →
      ∀ it ∈ (s.flush.ej.get b).schedule, it.ref ≠ e.ref) ∧
    (∀ b, (s.flush.ej.get b).state = (s.ej.get b).state ∧ (s.flush.ej.get b).misses = (s.ej.get b).misses) ∧
    (∀ b, s.flush.ej.get b = { s.ej.get b with schedule := (s.flush.ej.get b).schedule, watch := [] } ∧
      ∀ it, it ∈ (s.flush.ej.get b).schedule ↔ it ∈ (s.ej.get b).schedule ∧
        ∀ e ∈ s.trk.transit, ∀ fp, e.state = .scheduled b fp → it.ref ≠ e.ref) ∧
    (∀ b, s.flush.bins.recs.get b = { s.bins.recs.get b with pending :=
      (s.bins.recs.get b).pending - (s.trk.transit.filter (fun e => decide (e.state.names = some b))).length }) ∧
    (s.counters.get .flushed ≤ 65535 →
      s.flush.counters.get .flushed =
        min 65535 (s.counters.get .flushed + (s.trk.transit.length + s.trk.expect.length)))) ∧
  (∀ (x : EntryState) (b : BinNo), x.names = some b ↔
    (∃ fp, x = .scheduled b fp) ∨ ∃ fp, x = .fired b fp false) ∧
  (∀ (s : State) (ev : StepEvent),
    (ev.seamSlip = true → s.trackStep ev = s.flush.expireAtStep.exitLine ev ∧ (s.trackStep ev).trk.expect = [] ∧
      (s.trackStep ev).trk.transit = [] ∧ ∀ b, ((s.trackStep ev).ej.get b).watch = []) ∧
    (ev.seamSlip = false → s.trackStep ev = s.expireAtStep.exitLine ev))

/-! ### Decision and ejection -/

/-- R101, R104, R118, R119, R122: the tests that pass at once, when FULL, BUSY, DEFERRED and a take are answered; the take, which
asks after the sensor events taken between the tests and the request, reserves and schedules when the bin still grants and passes
as FULL, with no other bin tried, when it does not; and what an answer SCHEDULED says. That those events are an operand is log 28
(what one does to the bin: RemovalCancelsAndDetaches, FullSensorMovesState). -/
def Obligations.DecisionTests : Prop :=
  (∀ (s : State) (ref : Nat) (k : Ticket),
    let fire := fun b => (k.lead + (s.binCfg b).line + k.length / 2) % s.cfg.span
    let takes := fun b => (s.binCfg b).configured = true ∧ (s.binCfg b).cls = k.cls ∧
      (s.bins.recs.get b).state.takes = true ∧
      (s.bins.recs.get b).fill + (s.bins.recs.get b).pending < (s.binCfg b).capacity ∧
      (s.bins.recs.get b).pending < 8 ∧ (s.ej.get b).state ≠ .fault
    let room := fun b => (s.ej.get b).schedule.length < 8 ∧ 1 ≤ s.dist (fire b) ∧
      ∀ it ∈ (s.ej.get b).schedule, (s.binCfg b).spacing ≤ (signedDiff s.cfg.span (fire b) it.firePos).natAbs
    let able := (s.cfg.configuredBins.filter (s.candidateBin k.cls)).filter (s.ejectorRoom k)
    (s.ctl.mode = .safe → s.decision ref k = (s, .pass .safety)) ∧
    (s.ctl.mode = .service → s.decision ref k = (s, .pass .service)) ∧
    (s.ctl.mode = .run → s.pos.cond ≠ .normal → s.decision ref k = (s, .pass .degraded)) ∧
    (s.ctl.mode = .run → s.pos.cond = .normal → k.cls = 0 ∨ k.cls = 13 ∨ 2 ≤ k.missed →
      s.decision ref k = (s, .pass .noSort)) ∧
    (s.ctl.mode = .run → s.pos.cond = .normal → k.cls ≠ 0 → k.cls ≠ 13 → k.missed < 2 →
      ((∀ b, (s.binCfg b).configured = true → (s.binCfg b).cls ≠ k.cls) → s.decision ref k = (s, .pass .noBin)) ∧
      ((∃ b, (s.binCfg b).configured = true ∧ (s.binCfg b).cls = k.cls) →
        (∀ b, b ∈ able ↔ takes b ∧ room b) ∧
        ((∀ b, ¬ takes b) → s.decision ref k = (s, .pass .full)) ∧
        ((∃ b, takes b) → (∀ b, takes b → ¬ room b) → s.decision ref k = (s, .pass .busy)) ∧
        (∀ b, s.lowestBin able = some b →
          (s.balanceTakes k.cls b = false → s.decision ref k = (s, .pass .deferred)) ∧
          (s.balanceTakes k.cls b = true → s.decision ref k = s.take ref k b ∧
            (s.bins.between = [] → (s.decision ref k).2 = .scheduled b (fire b)))))) ∧
    (∀ t b fp, s.decision ref k = (t, .scheduled b fp) →
      s.ctl.mode ≠ .safe ∧ s.ctl.mode ≠ .service ∧ s.pos.cond = .normal ∧ takes b ∧ room b ∧ fp = fire b ∧
      (let s1 := s.takeBetween
       t.bins.recs = s1.bins.recs.set b { s1.bins.recs.get b with pending := (s1.bins.recs.get b).pending + 1 } ∧
       InsertedByDist (fun it => s.dist it.firePos) ⟨ref, fp⟩ (s1.ej.get b).schedule (t.ej.get b).schedule ∧
       t.ej = s1.ej.set b { s1.ej.get b with schedule := (t.ej.get b).schedule } ∧ SameBut [.bins, .ej] s1 t))) ∧
  (∀ (s : State) (ref : Nat) (k : Ticket) (b : BinNo),
    let s1 := s.takeBetween
    let r := s1.bins.recs.get b
    let granted := (s.binCfg b).configured = true ∧ r.state.takes = true ∧ r.fill + r.pending < (s.binCfg b).capacity ∧
      r.pending < 8
    (¬ granted → s.take ref k b = (s1, .pass .full)) ∧
    (granted → ∃ t, s.take ref k b = (t, .scheduled b ((k.lead + (s.binCfg b).line + k.length / 2) % s.cfg.span)))) ∧
  (∀ s : State, (s.bins.between = [] → s.takeBetween = s) ∧
    ∀ l rest, s.bins.between = l :: rest →
      s.takeBetween = l.foldl State.binEvent (s.setBins { s.bins with between := rest }))

/-- R120, R121: the chosen bin has the lowest level, and the balance test. -/
def Obligations.BinChoiceByLevelAndBalance : Prop :=
  (∀ (s : State) (l : List BinNo), (s.lowestBin l = none ↔ l = []) ∧
    ∀ b, s.lowestBin l = some b →
      ∃ before after, l = before ++ b :: after ∧ (∀ c ∈ before, s.binLevel b < s.binLevel c) ∧
        (∀ c ∈ after, s.binLevel b ≤ s.binLevel c)) ∧
  (∀ (s : State) (cls : Nat) (b : BinNo),
    (s.cfg.balance.getLsbD (cls - 1) = false → s.balanceTakes cls b = true) ∧
    (s.cfg.balance.getLsbD (cls - 1) = true →
      (s.balanceTakes cls b = true ↔
        ((∀ e ∈ s.bins.board, s.offering cls e = false) ∨
          ∃ e ∈ s.bins.board, s.offering cls e = true ∧
            s.binLevel b ≤ 16 * (e.fill + e.pending) / e.capacity + s.cfg.hysteresis ∧
            ∀ x ∈ s.bins.board, s.offering cls x = true →
              16 * (e.fill + e.pending) / e.capacity ≤ 16 * (x.fill + x.pending) / x.capacity)))) ∧
  (∀ (s : State) (cls : Nat) (e : BoardEntry), s.offering cls e = true ↔
    s.since e.refresh < 2000 ∧ e.cls = cls ∧ (e.state = .opened ∨ e.state = .near) ∧ e.fill + e.pending < e.capacity ∧
    e.unverified = false ∧ e.fault = false ∧ e.modeRun = true ∧ e.tracking = true ∧ e.degraded = false ∧
    ∃ p, s.peer e.peer = some p ∧ s.cfg.gateDist < p.gateDist)

/-- R124: the outcome of one head at its fire event; the heads that an event covers leaving in schedule order; and the fires of an
event at all four ejectors, whose order is the model's choice (log 29). A head that SLOW or BUSY passes when its exit extent is
already complete is decided within the event (R87; how: ExitDecidesPassedEntries). R13: the speed that the check reads. That the
boundary speed stands alone in the first microsecond is log 8, that times are rounded down to whole microseconds is log 42, the
marks of an item fired are log 18. -/
def Obligations.FireHeadOutcomes : Prop :=
  (∀ p : PositionUnit, (p.period = none ∨ p.sinceBoundary = none → p.speed = 0) ∧
    ∀ t since, p.period = some t → 0 < t → p.sinceBoundary = some since →
      (1000 ≤ since → p.speed = min (64000000 / t) (64000000 / (since / 1000))) ∧
      (since < 1000 → p.speed = 64000000 / t)) ∧
  (∀ (s : State) (ev : StepEvent) (b : BinNo) (heads rest : List SchedItem), (s.ej.get b).schedule = heads ++ rest →
    (∀ it ∈ heads, ev.covers s.cfg.span it.firePos = true) →
    (∀ it, rest.head? = some it → ev.covers s.cfg.span it.firePos = false) →
    s.fireEjector ev b = heads.foldl (fun acc it => acc.fireHead b it)
      (s.setEjector b { s.ej.get b with schedule := rest }) ∧
    ((s.fireEjector ev b).ej.get b).schedule = rest) ∧
  (∀ (s : State) (ev : StepEvent),
    s.fires ev = (((s.fireEjector ev .bin1).fireEjector ev .bin2).fireEjector ev .bin3).fireEjector ev .bin4) ∧
  (∀ (s : State) (b : BinNo) (it : SchedItem) (e : TransitEntry) (b' : BinNo) (fp : Nat),
    s.entry it.ref = some e → e.state = .scheduled b' fp →
    let t := s.fireHead b it
    let passes := fun r : PassReason =>
      t.ej = s.ej ∧ (t.bins.recs.get b).pending = (s.bins.recs.get b).pending - 1 ∧
      (e.exitDone = false → t.entry it.ref = some { e with state := .pass r }) ∧
      (e.exitDone = true → t.entry it.ref = none ∧ ∃ s1 : State, SameBut [.trk, .bins] s s1 ∧
        s1.entry it.ref = some { e with state := .pass r } ∧ t = s1.decideExit it.ref)
    (s.pos.speed < s.cfg.minSpeed → passes .slow) ∧
    (s.cfg.minSpeed ≤ s.pos.speed → (s.ej.get b).state ≠ .ready → passes .busy) ∧
    (s.cfg.minSpeed ≤ s.pos.speed → (s.ej.get b).state = .ready →
      t.entry it.ref = some { e with state := .fired b' fp false } ∧
      t.bins = s.bins ∧ (t.ej.get b).state = .pulsing ∧
      (t.ej.get b).shadow = true ∧
      (t.ej.get b).pulse = some ((s.binCfg b).pulseMs * 1000000) ∧
      ∃ w, (t.ej.get b).watch = (s.ej.get b).watch ++ [w] ∧ w.ref = e.ref ∧
        w.start = (e.ticket.lead + (s.binCfg b).verify) % s.cfg.span ∧ w.length = e.ticket.length ∧
        w.blocked = false ∧ w.detached = false ∧ w.fresh = true ∧
        w.overdue = decide (s.dist ((e.ticket.lead + (s.binCfg b).verify + e.ticket.length - 1) % s.cfg.span) ≤ 0)))

/-- R80, R99, R128 to R130: the two outcomes of a verify: the counters, the entry of the Transit List, the reservation, the bin
that fills up; and the second miss in a row, which cancels the schedule. A bin's change of state and the fault shown each ask for a
BINSTATE (R111). -/
def Obligations.VerifyOutcomes : Prop :=
  ∀ (s : State) (b : BinNo) (w : WatchItem),
    let t := s.verifyItem b w
    (w.blocked = false →
      (t.ej.get b).misses = 0 ∧ (t.ej.get b).state = (s.ej.get b).state ∧ t.counters = s.counters.bump .ejected ∧
      (∀ e, s.entry w.ref = some e → (∃ c fp d, e.state = .fired c fp d) →
        t.trk.transit = s.trk.transit.filter (fun x => decide (x.ref ≠ w.ref))) ∧
      (w.detached = true → t.bins = s.bins) ∧
      (w.detached = false → 0 < (s.bins.recs.get b).pending →
        (t.bins.recs.get b).fill = (s.bins.recs.get b).fill + 1 ∧
        (t.bins.recs.get b).pending = (s.bins.recs.get b).pending - 1 ∧
        ((s.bins.recs.get b).state = .opened ∨ (s.bins.recs.get b).state = .near → (t.bins.recs.get b).state =
          if (s.bins.recs.get b).fill + 1 = (s.binCfg b).capacity then .full
          else if (s.binCfg b).near ≤ 16 * ((s.bins.recs.get b).fill + 1) / (s.binCfg b).capacity then .near
          else (s.bins.recs.get b).state) ∧
        ((s.bins.recs.get b).state ≠ .opened → (s.bins.recs.get b).state ≠ .near →
          (t.bins.recs.get b).state = (s.bins.recs.get b).state) ∧
        ((s.binCfg b).configured = true → (t.bins.recs.get b).state ≠ (s.bins.recs.get b).state → t.bins.asked = true) ∧
        OtherBins b s t)) ∧
    (w.blocked = true →
      (t.ej.get b).misses = min 2 ((s.ej.get b).misses + 1) ∧
      t.counters.get .missed = (s.counters.bump .missed).get .missed ∧
      (∀ e, s.entry w.ref = some e → (∃ c fp d, e.state = .fired c fp d) → t.entry w.ref =
        if e.exitDone then none
        else some { e with
          state := .pass .missed, ticket := { e.ticket with missed := min 3 (e.ticket.missed + 1) } }) ∧
      ((s.ej.get b).misses = 0 ∨ (s.ej.get b).state = .fault →
        (w.detached = true → t.bins.recs = s.bins.recs) ∧
        (w.detached = false → t.bins.recs =
          s.bins.recs.set b { s.bins.recs.get b with pending := (s.bins.recs.get b).pending - 1 })) ∧
      ((s.ej.get b).misses = 0 → (t.ej.get b).state = (s.ej.get b).state) ∧
      (1 ≤ (s.ej.get b).misses → (t.ej.get b).state = .fault) ∧
      (1 ≤ (s.ej.get b).misses → (s.ej.get b).state ≠ .fault →
        (t.ej.get b).schedule = [] ∧ (t.ej.get b).shadow = false ∧ (t.bins.recs.get b).faultShown = true ∧
        Cancelled s t b .busy ∧
        ((s.binCfg b).configured = true → (s.bins.recs.get b).faultShown = false → t.bins.asked = true) ∧
        (t.bins.recs.get b).pending = (s.bins.recs.get b).pending - (if w.detached then 0 else 1) -
          (s.ej.get b).schedule.length))

/-- R4, R86, R87, R127, R134: the positions a step event covers, and what its sample does to an exit extent and to a verify extent;
the items that an event decides, verified in the order of their watch, the undecided ones staying; and the entries of the Transit
List, all sampled and then decided where R87 decides them (how: ExitDecidesPassedEntries). The order of the ejectors is the
model's choice (log 29), and so is that entries are decided in the order of the list (log 34). -/
def Obligations.SamplesJudgeExtents : Prop :=
  (∀ (ev : StepEvent) (span : Nat), ev.adv = none →
    (∀ q, ev.covers span q = false) ∧
    (∀ (blocked : Bool) (w : WatchItem), w.sampled ev span blocked = w ∧ w.decided ev span = false)) ∧
  (∀ (ev : StepEvent) (span a old : Nat), a < span → ev.adv = some a → ev.pos = (old + a) % span →
    (∀ q, ev.covers span q = true ↔ ∃ i, 1 ≤ i ∧ i ≤ a ∧ q % span = (old + i) % span) ∧
    (∀ (start stop : Nat) (blocked : Bool) (e : TransitEntry), e.ticket.length ≤ span →
      let f := exitSampled ev span start stop blocked e
      f.ticket = e.ticket ∧ f.ref = e.ref ∧ f.state = e.state ∧ f.localStray = e.localStray ∧
      (f.exitDone = true ↔ e.exitDone = true ∨ ev.covers span stop = true) ∧
      (f.exitBlocked = true ↔ e.exitBlocked = true ∨
        (blocked = true ∧ ∃ j, j < e.ticket.length ∧ ev.covers span (start + j) = true))) ∧
    (∀ (blocked : Bool) (w : WatchItem), w.length ≤ span →
      let v := w.sampled ev span blocked
      (w.fresh = true → v = w) ∧
      (w.fresh = false → w.overdue = false → (v.blocked = true ↔ w.blocked = true ∨
        (blocked = true ∧ ∃ j, j < w.length ∧ ev.covers span (w.start + j) = true))) ∧
      (w.fresh = false → w.overdue = true → v.blocked = (w.blocked || blocked)) ∧
      (v.decided ev span = true ↔ w.fresh = false ∧
        (w.overdue = true ∨ ev.covers span ((w.start + w.length - 1) % span) = true)))) ∧
  (∀ (s : State) (ev : StepEvent) (b : BinNo),
    let took := (s.ej.get b).watch.map (WatchItem.sampled ev s.cfg.span (s.pins.verifyBlocked.get b))
    ((∀ w ∈ took, w.decided ev s.cfg.span = false) →
      s.verifyEjector ev b = s.setEjector b { s.ej.get b with watch := took }) ∧
    (∀ w, took = [w] → w.decided ev s.cfg.span = true →
      s.verifyEjector ev b = (s.setEjector b { s.ej.get b with watch := [] }).verifyItem b w) ∧
    s.verifyEjector ev b = (took.filter (fun w => w.decided ev s.cfg.span)).foldl (fun acc w => acc.verifyItem b w)
      (s.setEjector b { s.ej.get b with watch := took.filter (fun w => !w.decided ev s.cfg.span) })) ∧
  (∀ (s : State) (ev : StepEvent), s.verifies ev =
    (((s.verifyEjector ev .bin1).verifyEjector ev .bin2).verifyEjector ev .bin3).verifyEjector ev .bin4) ∧
  (∀ (s : State) (ev : StepEvent), (∀ e ∈ s.trk.transit, ∀ r, e.state ≠ .pass r) →
    s.exitLine ev = s.setTransit (s.trk.transit.map (fun e =>
      exitSampled ev s.cfg.span ((e.ticket.lead + s.cfg.exitX) % s.cfg.span)
        ((e.ticket.lead + s.cfg.exitX + e.ticket.length - 1) % s.cfg.span) s.pins.exitBlocked e))) ∧
  (∀ (s : State) (ev : StepEvent), s.exitLine ev =
    (s.trk.transit.map (fun e => e.ref)).foldl State.decideExit (s.setTransit (s.trk.transit.map (fun e =>
      exitSampled ev s.cfg.span ((e.ticket.lead + s.cfg.exitX) % s.cfg.span)
        ((e.ticket.lead + s.cfg.exitX + e.ticket.length - 1) % s.cfg.span) s.pins.exitBlocked e))))

/-- R125, R130: the end of a pulse, and the end of a recovery: READY, or FAULT by the arm-home check, which asks for a
BINSTATE (R111). -/
def Obligations.EjectorTimersEnd : Prop :=
  (∀ (s : State) (dt : Nat) (b : BinNo), (s.ej.get b).state = .pulsing → RunsOut (s.ej.get b).pulse dt →
      s.bins.asked = false →
      ∃ t, exec (.pulseTimerExpiry dt b) s = .next t ∧
        t.ej = (s.elapse dt).ej.set b { (s.elapse dt).ej.get b with
          state := .recovering, shadow := false, pulse := none,
          recovery := some ((s.binCfg b).recoveryMs * 1000000) } ∧
        SameBut [.ej] (s.elapse dt) t) ∧
  (∀ (s : State) (dt : Nat) (b : BinNo) (home : Bool), (s.ej.get b).state = .recovering →
      RunsOut (s.ej.get b).recovery dt → s.bins.asked = false →
      ((s.binCfg b).homeFitted = false ∨ home = true →
        ∃ t, exec (.recoveryTimerExpiry dt b home) s = .next t ∧
          t.ej = (s.elapse dt).ej.set b { (s.elapse dt).ej.get b with state := .ready, recovery := none } ∧
          SameBut [.ej, .pins] (s.elapse dt) t) ∧
      ((s.binCfg b).homeFitted = true → home = false →
        ∃ t, exec (.recoveryTimerExpiry dt b home) s = .next t ∧ (t.ej.get b).state = .fault ∧
          (t.ej.get b).shadow = false ∧ (t.ej.get b).schedule = [] ∧ (t.ej.get b).pulse = none ∧
          (t.ej.get b).recovery = none ∧ (t.ej.get b).watch = (s.ej.get b).watch ∧
          (t.bins.recs.get b).faultShown = true ∧
          (s.running = true → (s.binCfg b).configured = true → (s.bins.recs.get b).faultShown = false →
            t.bins.periodTimer = some 500000000) ∧
          OtherBins b s t ∧ (∀ c, c ≠ b → t.ej.get c = (s.elapse dt).ej.get c) ∧
          SameBut [.retention, .trk, .bins, .ej, .port, .ltu, .pins, .counters] (s.elapse dt) t))

/-! ### Bins -/

/-- R97: a change of a bin sensor's level starts its settle time, and a return to the settled level ends it; a sensor that is
not read moves its pin alone. -/
def Obligations.SensorChangeStartsSettling : Prop :=
  ∀ (s : State) (dt : Nat) (b : BinNo) (k : BinSensor) (level : Bool), level ≠ s.pins.binSensor b k →
    s.bins.asked = false →
    (s.running = true → s.reads b k = true →
      ∃ t, exec (.binSensorChange dt b k level) s = .next t ∧ t.pins.binSensor b k = level ∧
        (t.bins.sensor b k).settled = (s.bins.sensor b k).settled ∧
        (t.bins.sensor b k).timer = (if level = (s.bins.sensor b k).settled then none
          else some (match k with
            | .present => 100000000
            | .full => 300000000)) ∧
        t.bins.recs = s.bins.recs ∧ SameBut [.bins, .pins] (s.elapse dt) t) ∧
    (s.running = false ∨ s.reads b k = false →
      ∃ t, exec (.binSensorChange dt b k level) s = .next t ∧ t.pins.binSensor b k = level ∧
        SameBut [.pins] (s.elapse dt) t)

/-- R98, R107: an insertion, outside a visit and within one; a BINSTATE is asked for (R111). -/
def Obligations.InsertionEmptiesRecord : Prop :=
  ∀ (s : State) (dt : Nat) (b : BinNo), s.running = true → (s.binCfg b).configured = true →
    RunsOut (s.bins.present.get b).timer dt → (s.bins.present.get b).settled = false →
    s.pins.binPresent.get b = true → (s.bins.recs.get b).state = .absent →
    ∃ t, exec (.insertion dt b) s = .next t ∧ (t.bins.present.get b).settled = true ∧
      (t.bins.recs.get b).fill = 0 ∧ (t.bins.recs.get b).unverified = false ∧
      (t.bins.recs.get b).pending = (s.bins.recs.get b).pending ∧
      ((s.bins.recs.get b).fill ≠ 0 ∨ (s.bins.recs.get b).unverified = true →
        (t.retention.bins.get b).fill = 0 ∧ (t.retention.bins.get b).unverified = false) ∧
      (s.bins.snapshot = none → t.bins.snapshot = none ∧
        (t.bins.recs.get b).state =
          if (s.binCfg b).fullFitted = true ∧ (s.bins.full.get b).settled = true then .full else .opened) ∧
      (∀ q, s.bins.snapshot = some q → (t.bins.recs.get b).state = .held ∧
        t.bins.snapshot = some (q.set b ⟨.opened, .fresh⟩)) ∧
      t.bins.periodTimer = some 500000000 ∧ OtherBins b s t ∧ SameBut (.retention :: binstateParts) (s.elapse dt) t

/-- R103, R107, R132: a removal: the scheduled entries pass with BIN REMOVED, the attached fired ones are detached, and
each gives its reservation up; a BINSTATE is asked for (R111). R101, R104, R122: one taken between the tests of a decision and its
request for the same bin (which the command's operand says, log 28) does the same, and the request is refused: FULL. -/
def Obligations.RemovalCancelsAndDetaches : Prop :=
  (∀ (s : State) (dt : Nat) (b : BinNo), s.running = true → (s.binCfg b).configured = true →
    RunsOut (s.bins.present.get b).timer dt → (s.bins.present.get b).settled = true →
    s.pins.binPresent.get b = false → (s.bins.recs.get b).state ≠ .absent →
    ∃ t, exec (.removal dt b) s = .next t ∧ (t.bins.present.get b).settled = false ∧
      (t.bins.recs.get b).state = .absent ∧ (t.bins.recs.get b).fill = 0 ∧
      (t.bins.recs.get b).unverified = (s.bins.recs.get b).unverified ∧ (t.ej.get b).schedule = [] ∧
      (t.ej.get b).state = (s.ej.get b).state ∧
      (t.ej.get b).watch = (s.ej.get b).watch.map (fun w => { w with detached := true }) ∧
      Cancelled s t b .binRemoved ∧
      (∀ w ∈ (s.ej.get b).watch, w.detached = false → ∀ e, s.entry w.ref = some e →
        ∀ c fp d, e.state = .fired c fp d → t.entry w.ref = some { e with state := .fired c fp true }) ∧
      (t.bins.recs.get b).pending = (s.bins.recs.get b).pending -
        ((s.ej.get b).schedule.length + ((s.ej.get b).watch.filter (fun w => !w.detached)).length) ∧
      (∀ q, s.bins.snapshot = some q → t.bins.snapshot = some (q.set b ⟨.absent, .replaced⟩)) ∧
      t.bins.periodTimer = some 500000000 ∧ OtherBins b s t ∧ (∀ c, c ≠ b → t.ej.get c = (s.elapse dt).ej.get c) ∧
      SameBut [.retention, .trk, .bins, .ej, .port, .ltu, .counters] (s.elapse dt) t) ∧
  (∀ (s : State) (dt : Nat) (b : BinNo), exec (.removal dt b) s = .next ((s.elapse dt).binEvent (.removal b)).finish) ∧
  (∀ (s : State) (b : BinNo) (rest : List (List BinEvent)) (ref : Nat) (k : Ticket),
    s.bins.between = [.removal b] :: rest → s.running = true → (s.binCfg b).configured = true →
    RunsOut (s.bins.present.get b).timer 0 → (s.bins.present.get b).settled = true → s.pins.binPresent.get b = false →
    (s.bins.recs.get b).state ≠ .absent →
    ∃ t, s.take ref k b = (t, .pass .full) ∧ (t.bins.recs.get b).state = .absent ∧ (t.bins.recs.get b).fill = 0 ∧
      (t.bins.recs.get b).pending = (s.bins.recs.get b).pending -
        ((s.ej.get b).schedule.length + ((s.ej.get b).watch.filter (fun w => !w.detached)).length) ∧
      (t.ej.get b).schedule = [] ∧ Cancelled s t b .binRemoved ∧ t.bins.between = rest ∧ t.bins.asked = true ∧ OtherBins b s t ∧
      ∀ c, c ≠ b → t.ej.get c = s.ej.get c)

/-- R99, R100: a full-sensor rise, which cancels the scheduled entries with FULL, and a full-sensor fall; each change of state
asks for a BINSTATE (R111). R101, R104, R122: a rise taken between the tests of a decision and its request for the same bin (which
the command's operand says, log 28) does the same, and the request is refused: FULL. -/
def Obligations.FullSensorMovesState : Prop :=
  (∀ (s : State) (dt : Nat) (b : BinNo), s.running = true → (s.binCfg b).configured = true →
    (s.binCfg b).fullFitted = true → RunsOut (s.bins.full.get b).timer dt → (s.bins.full.get b).settled = false →
    s.pins.binFull.get b = true →
    ∃ t, exec (.fullSensorRise dt b) s = .next t ∧ (t.bins.full.get b).settled = true ∧
      (t.bins.recs.get b).fill = (s.bins.recs.get b).fill ∧
      ((s.bins.recs.get b).state = .opened ∨ (s.bins.recs.get b).state = .near →
        (t.bins.recs.get b).state = .full ∧ (t.ej.get b).schedule = [] ∧ Cancelled s t b .full ∧
        (t.bins.recs.get b).pending = (s.bins.recs.get b).pending - (s.ej.get b).schedule.length ∧
        (t.ej.get b).watch = (s.ej.get b).watch ∧ t.bins.periodTimer = some 500000000) ∧
      ((s.bins.recs.get b).state ≠ .opened → (s.bins.recs.get b).state ≠ .near →
        t.bins.recs = s.bins.recs ∧ t.ej = (s.elapse dt).ej) ∧
      OtherBins b s t ∧ SameBut [.retention, .trk, .bins, .ej, .port, .ltu, .counters] (s.elapse dt) t) ∧
  (∀ (s : State) (dt : Nat) (b : BinNo), s.running = true → (s.binCfg b).configured = true →
    (s.binCfg b).fullFitted = true → RunsOut (s.bins.full.get b).timer dt → (s.bins.full.get b).settled = true →
    s.pins.binFull.get b = false →
    ∃ t, exec (.fullSensorFall dt b) s = .next t ∧ (t.bins.full.get b).settled = false ∧
      (t.bins.recs.get b).fill = (s.bins.recs.get b).fill ∧
      ((s.bins.recs.get b).state = .full → (s.bins.recs.get b).fill < (s.binCfg b).capacity →
        (t.bins.recs.get b).state =
          if (s.binCfg b).near ≤ 16 * (s.bins.recs.get b).fill / (s.binCfg b).capacity then .near else .opened) ∧
      ((s.bins.recs.get b).state = .full → (s.bins.recs.get b).fill < (s.binCfg b).capacity →
        t.bins.periodTimer = some 500000000) ∧
      ((s.bins.recs.get b).state ≠ .full ∨ (s.binCfg b).capacity ≤ (s.bins.recs.get b).fill →
        t.bins.recs = s.bins.recs) ∧
      OtherBins b s t ∧ SameBut (.retention :: binstateParts) (s.elapse dt) t) ∧
  (∀ (s : State) (dt : Nat) (b : BinNo),
    exec (.fullSensorRise dt b) s = .next ((s.elapse dt).binEvent (.fullSensorRise b)).finish) ∧
  (∀ (s : State) (b : BinNo) (rest : List (List BinEvent)) (ref : Nat) (k : Ticket),
    s.bins.between = [.fullSensorRise b] :: rest → s.running = true → (s.binCfg b).configured = true →
    (s.binCfg b).fullFitted = true → RunsOut (s.bins.full.get b).timer 0 → (s.bins.full.get b).settled = false →
    s.pins.binFull.get b = true → (s.bins.recs.get b).state = .opened ∨ (s.bins.recs.get b).state = .near →
    ∃ t, s.take ref k b = (t, .pass .full) ∧ (t.bins.recs.get b).state = .full ∧
      (t.bins.recs.get b).fill = (s.bins.recs.get b).fill ∧
      (t.bins.recs.get b).pending = (s.bins.recs.get b).pending - (s.ej.get b).schedule.length ∧
      (t.ej.get b).schedule = [] ∧ Cancelled s t b .full ∧ t.bins.between = rest ∧ t.bins.asked = true ∧ OtherBins b s t ∧
      ∀ c, c ≠ b → t.ej.get c = s.ej.get c)

/-- R111, R112: the BINSTATE period timer runs out. R162: what the own queue does with a request, the transmitter being told (R145);
that a FREE one asks at once is the model's choice (log 30), and so is that the frame's cells are counted from that moment, the idle cell
going out being cut (log 38). -/
def Obligations.BinstatePeriodQueuesFrame : Prop :=
  (∀ (s : State) (dt : Nat), s.running = true → RunsOut s.bins.periodTimer dt →
    ∃ t, exec (.binstatePeriodTimer dt) s = .next t ∧ t.bins.periodTimer = some 500000000 ∧
      t.bins.recs = s.bins.recs ∧ SameBut binstateParts (s.elapse dt) t ∧
      let f : Frame := ⟨0x33, 0, s.ctl.address, 32,
        encodeHeader s.ctl.mode s.pos.cond :: (s.cfg.configuredBins.map s.binReport).flatMap encodeReport⟩
      let q := (s.elapse dt).enqueueOwn f
      (t.port = q.port ∧ t.ltu = q.ltu ∧ t.counters = q.counters) ∧
      (s.port.link ≠ .bypassed → s.port.tx ≠ .free → s.ltu.ownQueue = [] → t.ltu.ownQueue = [f])) ∧
  (∀ (s : State) (b : BinNo), s.binReport b = ⟨b.number, (s.binCfg b).cls, some (s.bins.recs.get b).state,
    (s.bins.recs.get b).unverified, (s.bins.recs.get b).faultShown, (s.bins.recs.get b).fill, (s.bins.recs.get b).pending,
    (s.binCfg b).capacity⟩) ∧
  (∀ (s : State) (f : Frame),
    (s.port.link = .bypassed → s.enqueueOwn f = s) ∧
    (s.port.link ≠ .bypassed →
      (f.kind = 0x33 → (∃ g ∈ s.ltu.ownQueue, g.kind = 0x33) → s.enqueueOwn f = (s.setLtu { s.ltu with
        ownQueue := s.ltu.ownQueue.map (fun g => if g.kind = 0x33 then f else g) }).askArbiter) ∧
      (f.kind ≠ 0x33 ∨ (∀ g ∈ s.ltu.ownQueue, g.kind ≠ 0x33) →
        (8 ≤ s.ltu.ownQueue.length → s.enqueueOwn f = s.count .queueDrops) ∧
        (s.ltu.ownQueue.length < 8 →
          s.enqueueOwn f = (s.setLtu { s.ltu with ownQueue := s.ltu.ownQueue ++ [f] }).askArbiter)))) ∧
  (∀ s : State, (s.port.tx ≠ .free ∨ s.ltu.arbitrate = none → s.askArbiter = s) ∧
    ∀ f u, s.port.tx = .free → s.ltu.arbitrate = some (f, u) → s.askArbiter = (s.setLtu u).setPort
      { s.port with tx := .sending f.lineBytes, txTimer := some ((f.lineBytes.length * 8 + 4) * 500) })

/-! ### The line -/

/-- R139, R141, R142: open marks, abort marks, line errors and the 68th byte. The EMPTY cell of a lone violation counts toward the
silence time: a cell time where the row brings both cells (log 10). That a discarded frame leaves the buffer empty is log 9. -/
def Obligations.MarksAndErrorsOpenAndDiscardFrames : Prop :=
  (∀ (s : State) (dt : Nat), s.listening = true → s.bins.asked = false → s.port.violationRun = 0 →
    (s.port.rx = .idle →
      (∃ t, exec (.openMark dt) s = .next t ∧ t.port.rx = .frame ∧ t.port.buffer = [] ∧ t.port.bits = [] ∧
        t.port.idleRun = 0 ∧ SameBut [.port] (s.elapse dt) t) ∧
      (∃ t, exec (.abortMark dt) s = .next t ∧ t.port.rx = .idle ∧ t.port.violationRun = 2 ∧
        SameBut [.port] (s.elapse dt) t) ∧
      (∃ t, exec (.lineError dt .loneViolation) s = .next t ∧ t.port.rx = .idle ∧ t.port.silence = 500 ∧
        SameBut [.port] (s.elapse dt) t)) ∧
    (s.port.rx = .frame → s.port.bits = [] →
      (∃ t, exec (.openMark dt) s = .next t ∧ t.port.rx = .frame ∧ t.port.buffer = [] ∧ DropCounted s t ∧
        SameBut [.port, .counters] (s.elapse dt) t) ∧
      (∃ t, exec (.abortMark dt) s = .next t ∧ t.port.rx = .idle ∧ t.port.buffer = [] ∧ DropCounted s t ∧
        SameBut [.port, .counters] (s.elapse dt) t) ∧
      (∃ t, exec (.lineError dt .loneViolation) s = .next t ∧ t.port.rx = .idle ∧ t.port.silence = 500 ∧
        DropCounted s t ∧ SameBut [.port, .counters] (s.elapse dt) t)) ∧
    (s.port.rx = .frame →
      (∃ t, exec (.lineError dt .strayEmpty) s = .next t ∧ t.port.rx = .idle ∧ DropCounted s t ∧
        SameBut [.port, .counters] (s.elapse dt) t) ∧
      (s.port.bits ≠ [] →
        ∃ t, exec (.lineError dt .violationInByte) s = .next t ∧ t.port.rx = .idle ∧ t.port.violationRun = 1 ∧
          DropCounted s t ∧ SameBut [.port, .counters] (s.elapse dt) t) ∧
      (s.port.buffer.length = 67 → s.port.bits.length = 7 →
        ∃ t, exec (.frameTooLong dt) s = .next t ∧ t.port.rx = .idle ∧ t.port.buffer = [] ∧ DropCounted s t ∧
          SameBut [.port, .counters] (s.elapse dt) t)) ∧
    (s.port.rx = .loss → s.port.idleRun < 31 →
      (∃ t, exec (.openMark dt) s = .next t ∧ t.port.rx = .loss ∧ SameBut [.port] (s.elapse dt) t) ∧
      (∃ t, exec (.abortMark dt) s = .next t ∧ t.port.rx = .loss ∧ SameBut [.port] (s.elapse dt) t) ∧
      (∃ t, exec (.closeMark dt) s = .next t ∧ t.port.rx = .loss ∧ SameBut [.port] (s.elapse dt) t))) ∧
  (∀ (s : State) (dt : Nat), s.listening = true → s.bins.asked = false → s.port.violationRun = 1 → s.port.rx ≠ .loss →
    ∃ t, exec (.lineError dt .loneViolation) s = .next t ∧ t.port.rx = .idle ∧ t.port.violationRun = 0 ∧
      t.port.silence = min (s.port.silence + dt) 4000 ∧
      (s.port.rx = .idle → SameBut [.port] (s.elapse dt) t) ∧
      (s.port.rx = .frame → DropCounted s t ∧ SameBut [.port, .counters] (s.elapse dt) t))

/-- R138, R142: cells outside a mark: a bit into the buffer, or the idle run. -/
def Obligations.CellsGatherBitsAndIdle : Prop :=
  ∀ (s : State) (dt : Nat), s.listening = true → s.bins.asked = false → s.port.violationRun = 0 →
    (∀ b : Bool, s.port.rx = .frame →
      (s.port.bits.length < 7 →
        ∃ t, exec (.cellReceived dt (if b then .one else .zero)) s = .next t ∧ t.port.bits = s.port.bits ++ [b] ∧
          t.port.buffer = s.port.buffer ∧ t.port.rx = .frame ∧ SameBut [.port] (s.elapse dt) t) ∧
      (s.port.bits.length = 7 → s.port.buffer.length < 67 →
        ∃ t, exec (.cellReceived dt (if b then .one else .zero)) s = .next t ∧ t.port.bits = [] ∧
          t.port.buffer = s.port.buffer ++ [byteOf (byteOfBits (s.port.bits ++ [b]))] ∧ t.port.rx = .frame ∧
          SameBut [.port] (s.elapse dt) t)) ∧
    (s.port.rx ≠ .frame →
      (s.port.idleRun < 31 →
        ∃ t, exec (.cellReceived dt .one) s = .next t ∧ t.port.idleRun = s.port.idleRun + 1 ∧ t.port.rx = s.port.rx ∧
          SameBut [.port] (s.elapse dt) t) ∧
      (∀ c, c ≠ .one →
        ∃ t, exec (.cellReceived dt c) s = .next t ∧ t.port.idleRun = 0 ∧ t.port.rx = s.port.rx ∧
          SameBut [.port] (s.elapse dt) t))

/-- R143, R155 to R157, R161, R181: a close mark at a byte boundary in FRAME: a frame that fails is dropped, one that passes the
header check is heard and dispatched (what dispatch does: FramesForAllAreTaken); one that another station is to take is
repeated with its hop budget lowered, this station's own ROLL closes the ring, and another's in its name halts
the station (R152, R171, R181). That the buffer is left empty is log 9; what a halt leaves in fields its rules do not name is log 20,
that the peer table stands is log 31, and that the link is BYPASSED before a cut frame's abort mark has gone out is log 37. -/
def Obligations.CloseMarkChecksAndDispatches : Prop :=
  ∀ (s : State) (dt : Nat), s.listening = true → s.bins.asked = false → s.port.violationRun = 0 → s.port.rx = .frame →
    s.port.bits = [] →
    let f := frameOfBytes s.port.buffer
    (accepted s.port.buffer = false →
      ∃ t, exec (.closeMark dt) s = .next t ∧ t.port.rx = .idle ∧ t.port.buffer = [] ∧ DropCounted s t ∧
        SameBut [.port, .counters] (s.elapse dt) t) ∧
    (accepted s.port.buffer = true → s.port.link = .bypassed →
      ∃ t, exec (.closeMark dt) s = .next t ∧ t.port.rx = .idle ∧ SameBut [.port] (s.elapse dt) t) ∧
    (accepted s.port.buffer = true → s.port.link ≠ .bypassed → f.headerOk = false →
      ∃ t, exec (.closeMark dt) s = .next t ∧ t.port.rx = .idle ∧ t.counters = s.counters.bump .lineDrops ∧
        SameBut [.port, .counters] (s.elapse dt) t) ∧
    (f.headerOk = true ↔ 1 ≤ f.origin ∧ f.origin ≤ 16 ∧ f.dest ≤ 16 ∧ lengthAllowed f.kind f.payload.length = true) ∧
    (∀ kind len : Nat, lengthAllowed kind len = true ↔
      (kind = 0x11 → len = 11) ∧ (kind = 0x22 → len ∈ [14, 17, 20, 23]) ∧ (kind = 0x33 → len ∈ [1, 9, 17, 25, 33]) ∧
      (kind = 0x44 → len = 39)) ∧
    (accepted s.port.buffer = true → s.port.link ≠ .bypassed → f.headerOk = true →
      (∃ s1 : State, s1.port.rx = .idle ∧ s1.port.buffer = [] ∧ s1.port.link = s.port.link ∧ s1.port.tx = s.port.tx ∧
        SameBut [.port] (s.elapse dt) s1 ∧
        exec (.closeMark dt) s = .next ((s1.hear f.origin).dispatch f).finish) ∧
      (f.origin ≠ s.ctl.address → f.dest ≠ s.ctl.address → f.dest ≠ 0 → 2 ≤ f.hop → s.ltu.transitQueue.length < 6 →
        s.port.tx ≠ .free →
        ∃ t, exec (.closeMark dt) s = .next t ∧ t.port.rx = .idle ∧
          t.ltu.transitQueue = s.ltu.transitQueue ++ [{ f with hop := f.hop - 1 }] ∧
          SameBut [.port, .ltu] (s.elapse dt) t) ∧
      (f.origin = s.ctl.address → f.kind = 0x11 → (decodeRoll f.payload).sameFixed (s.ownRoll false) = true →
        ∃ t, exec (.closeMark dt) s = .next t ∧ t.port.link = .joined ∧ SameBut [.port, .ltu] (s.elapse dt) t) ∧
      (f.origin = s.ctl.address → f.kind = 0x11 → (decodeRoll f.payload).sameFixed (s.ownRoll false) = false →
        ∃ t, exec (.closeMark dt) s = .next t ∧ t.ctl.mode = .halted ∧ t.ctl.haltCode = 6 ∧
          t.port.link = .bypassed ∧ t.ltu.transitQueue = [] ∧ t.ltu.ownQueue = [] ∧ t.trk.expect = [] ∧
          t.trk.transit = [] ∧ t.gate.state = .held ∧ (∀ b, (t.bins.recs.get b).pending = 0) ∧
          (∀ b, (t.bins.recs.get b).fill = (s.bins.recs.get b).fill) ∧ t.ej = Quad.all Ejector.reset ∧
          t.retention = s.retention ∧ t.counters = s.counters ∧ t.pos = (s.elapse dt).pos ∧
          t.trk = ⟨[], [], s.retention.serial, [], 0, none⟩ ∧ t.gate.detection = none ∧ t.gate.completing = [] ∧
          t.bins.snapshot = none ∧ t.ctl.clockRunning = false ∧ t.ctl.clock = (s.elapse dt).ctl.clock ∧
          t.ctl.heldMode = none ∧
          (let p := (s.elapse dt).port.leaveRing
           t.port.tx = p.tx ∧ t.port.txTimer = p.txTimer ∧ t.port.relayDrive = p.relayDrive) ∧
          t.port.lossTimer = none ∧ t.port.joinTimer = none ∧ t.ltu.recallTimer = none ∧ t.ltu.fairness = 0 ∧
          t.ltu = { LoopTraffic.reset with peers := t.ltu.peers }))

/-- R140, R141, R150, R151: the entry to LOSS, which leaves the buffer empty (log 9), and the return from it. -/
def Obligations.LossEntryAndReturn : Prop :=
  ∀ (s : State) (dt : Nat), s.listening = true → s.bins.asked = false →
    (∀ cause, s.port.rx ≠ .loss →
      (cause = .thirdViolation → s.port.violationRun = 2) →
      (cause = .silence → 4000 ≤ s.port.silence + dt) →
      ∃ t, exec (.lossEntry dt cause) s = .next t ∧ t.port.rx = .loss ∧ t.port.idleRun = 0 ∧ t.port.buffer = [] ∧
        (s.port.rx = .frame → DropCounted s t) ∧ (s.port.rx = .idle → t.counters = s.counters) ∧
        (s.port.link = .joining ∨ s.port.link = .joined → s.port.lossTimer = none →
          t.port.lossTimer = some 50000000) ∧
        (s.port.link = .bypassed ∨ s.port.link = .severed → t.port.lossTimer = none) ∧
        SameBut [.port, .counters] (s.elapse dt) t) ∧
    (s.port.rx = .loss → s.port.idleRun = 31 →
      ∃ t, exec (.lossReturn dt) s = .next t ∧ t.port.rx = .idle ∧ t.port.idleRun = 32 ∧ t.port.lossTimer = none ∧
        (s.port.link ≠ .severed → t.port.link = s.port.link ∧ SameBut [.port] (s.elapse dt) t) ∧
        (s.port.link = .severed → t.port.link = .joining ∧ SameBut [.port, .ltu, .counters] (s.elapse dt) t))

/-- R145, R146, R163: the transmitter becomes FREE and sends what the arbiter gives; the end of a frame; the end of an
abort mark. R138, R139, R145, R146: the cells of a frame, the cell on loop-out at any moment, and what goes out after a cut
(within a mark by log 19): never an EMPTY cell, never three VIOLATIONs in a row. -/
def Obligations.TransmitterCycle : Prop :=
  (∀ (s : State) (dt : Nat), s.bins.asked = false → s.listening = true → RunsOut s.port.txTimer dt →
    (s.port.tx = .gap →
      (s.ltu.arbitrate = none →
        ∃ t, exec (.transmitterFree dt) s = .next t ∧ t.port.tx = .free ∧ SameBut [.port] (s.elapse dt) t) ∧
      (∀ f u, s.ltu.arbitrate = some (f, u) →
        ∃ t, exec (.transmitterFree dt) s = .next t ∧ t.port.tx = .sending f.lineBytes ∧
          t.port.txTimer = some ((f.lineBytes.length * 8 + 4) * 500) ∧
          t.ltu.transitQueue = u.transitQueue ∧ t.ltu.ownQueue = u.ownQueue ∧ t.ltu.fairness = u.fairness ∧
          SameBut [.port, .ltu] (s.elapse dt) t)) ∧
    (∀ bytes, s.port.tx = .sending bytes →
      ∃ t, exec (.frameSent dt) s = .next t ∧ t.port.tx = .gap ∧ t.port.txTimer = some 8000 ∧
        SameBut [.port] (s.elapse dt) t) ∧
    (∀ cells, s.port.tx = .aborting cells →
      ∃ t, exec (.abortMarkSent dt) s = .next t ∧ t.port.tx = .silent ∧ t.port.relayDrive = false ∧
        SameBut [.port] (s.elapse dt) t)) ∧
  ((∀ c : CellClass, cellOfTransitions c.startTransition c.midTransition = c) ∧
    cellOfTransitions true true = .one ∧ cellOfTransitions true false = .zero ∧
    cellOfTransitions false true = .violation ∧ cellOfTransitions false false = .empty) ∧
  (∀ bytes : List Byte,
    frameCells bytes = [.violation, .zero] ++ bytes.flatMap byteCells ++ [.violation, .one] ∧
    (frameCells bytes).length = bytes.length * 8 + 4 ∧
    ∀ b : Byte, (byteCells b).length = 8 ∧
      ∀ i, i < 8 → (byteCells b)[i]? = some (if b.getLsbD i then CellClass.one else .zero)) ∧
  (∀ p : LoopPort,
    (p.tx = .silent → p.loopOut = none) ∧ (p.tx = .gap ∨ p.tx = .free → p.loopOut = some .one) ∧
    (∀ bytes gone, p.tx = .sending bytes → gone < (bytes.length * 8 + 4) * 500 →
      p.txTimer = some ((bytes.length * 8 + 4) * 500 - gone) → p.loopOut = (frameCells bytes)[gone / 500]?) ∧
    (∀ cells gone, p.tx = .aborting cells → gone < cells.length * 500 → p.txTimer = some (cells.length * 500 - gone) →
      p.loopOut = cells[gone / 500]?)) ∧
  (∀ p : LoopPort,
    (p.tx = .silent → p.leaveRing = { p with txTimer := none, relayDrive := false }) ∧
    (p.tx = .gap ∨ p.tx = .free → p.leaveRing = { p with tx := .silent, txTimer := none, relayDrive := false }) ∧
    (∀ cells, p.tx = .aborting cells → p.leaveRing = p) ∧
    (∀ bytes gone, p.tx = .sending bytes → gone < (bytes.length * 8 + 4) * 500 →
      p.txTimer = some ((bytes.length * 8 + 4) * 500 - gone) →
      let k := gone / 500
      ∃ cells, p.leaveRing =
          { p with tx := .aborting cells, txTimer := some (cells.length * 500 - gone % 500) } ∧
        (k < 2 → cells = [CellClass.violation, .zero].drop k ++ [.violation, .violation]) ∧
        (∀ b, 2 ≤ k → bytes[(k - 2) / 8]? = some b →
          cells = (byteCells b).drop ((k - 2) % 8) ++ [.violation, .violation]) ∧
        (k = bytes.length * 8 + 2 → cells = [.violation, .violation]) ∧
        (k = bytes.length * 8 + 3 → cells = [.one, .violation, .violation]) ∧
        CellClass.empty ∉ (frameCells bytes).take k ++ cells ∧
        ∀ before after, (frameCells bytes).take k ++ cells ≠
          before ++ [CellClass.violation, .violation, .violation] ++ after))

/-- R148 to R151, R162, R164: the timers of the link, and the rejoin, each joining ROLL asking for the own queue. That
the return from SEVERED begins no gap is log 36, and that a FREE transmitter sends at once log 30. -/
def Obligations.LinkTimersAndRejoin : Prop :=
  (∀ (s : State) (newFlag : Bool), s.rollFrame newFlag = ⟨0x11, 0, s.ctl.address, 32, encodeRoll ⟨newFlag, s.cfg.gateDist,
    s.cfg.configuredBins.length, 0x31, 0x16, 0x02, s.classifier.digest.getD 0, s.cfg.exitX⟩ s.ctl.mode⟩) ∧
  ∀ (s : State) (dt : Nat), s.bins.asked = false → s.listening = true →
    (s.port.link = .joining → RunsOut s.port.joinTimer dt →
      (s.ltu.joinRetry < 5 →
        ∃ t, exec (.joiningRollRetry dt) s = .next t ∧ t.port.link = .joining ∧
          t.ltu.joinRetry = s.ltu.joinRetry + 1 ∧ t.port.joinTimer = some 200000000 ∧ OwnJoins s t (s.rollFrame true) ∧
          SameBut [.port, .ltu, .counters] (s.elapse dt) t) ∧
      (5 ≤ s.ltu.joinRetry →
        ∃ t, exec (.joinTimeout dt) s = .next t ∧ t.port.link = .severed ∧ t.port.joinTimer = none ∧
          t.port.idleRun = 0 ∧ SameBut [.port] (s.elapse dt) t)) ∧
    (∀ withIdle, RunsOut s.port.lossTimer dt →
      ∃ t, exec (.lossTimerExpiry dt withIdle) s = .next t ∧ t.port.link = .severed ∧ t.port.joinTimer = none ∧
        t.port.lossTimer = none ∧
        t.port.idleRun = (if withIdle = true ∧ s.port.idleRun = 31 then 31 else 0) ∧
        SameBut [.port] (s.elapse dt) t) ∧
    (s.port.link = .severed → s.port.rx ≠ .frame → s.port.idleRun = 31 → s.port.violationRun = 0 →
      ∃ t, exec (.severedRejoin dt) s = .next t ∧ t.port.link = .joining ∧ t.port.rx = .idle ∧
        t.ltu.joinRetry = 1 ∧ t.port.joinTimer = some 200000000 ∧ OwnJoins s t (s.rollFrame true) ∧
        SameBut [.port, .ltu, .counters] (s.elapse dt) t)

/-- R144: the loop's CRC, its check value, and where sender, receiver and class-table digest use it. -/
def Obligations.LoopCrcCalculation : Prop :=
  (∀ bs : List Byte, crc16 bs = bs.foldl (fun (r : BitVec 16) (x : Byte) =>
    [0, 1, 2, 3, 4, 5, 6, 7].foldl (fun (r : BitVec 16) (i : Nat) =>
      if r.getLsbD 0 = x.getLsbD i then r >>> 1 else (r >>> 1) ^^^ 0x8408#16) r) 0xFFFF#16) ∧
  crc16 [0x31, 0x32, 0x33, 0x34, 0x35, 0x36, 0x37, 0x38, 0x39] = 0x6F91#16 ∧
  (∀ f : Frame, f.lineBytes = f.bytes ++ [byteOf (crc16 f.bytes).toNat, byteOf ((crc16 f.bytes).toNat / 256)]) ∧
  (∀ bs : List Byte, accepted bs = true ↔ 7 ≤ bs.length ∧ byteAt bs 4 + 7 = bs.length ∧
    (crc16 (bs.take (bs.length - 2))).toNat = wordAt bs (bs.length - 2)) ∧
  (∀ (image : List Byte), digestOf image = crc16 ((image.drop 81).take (1 + 10 * byteAt image 81)))

/-! ### Loop traffic -/

/-- R163: the arbiter's choice and the fairness count. -/
def Obligations.ArbiterChoice : Prop :=
  ∀ u : LoopTraffic, u.fairness ≤ 4 →
    (u.transitQueue = [] → u.ownQueue = [] → u.arbitrate = none) ∧
    (∀ f rest, u.transitQueue = f :: rest → u.ownQueue = [] →
      u.arbitrate = some (f, { u with transitQueue := rest })) ∧
    (∀ f rest, u.transitQueue = [] → u.ownQueue = f :: rest →
      u.arbitrate = some (f, { u with ownQueue := rest, fairness := 0 })) ∧
    (∀ f rest, u.transitQueue = f :: rest → u.ownQueue ≠ [] → u.fairness < 4 →
      u.arbitrate = some (f, { u with transitQueue := rest, fairness := u.fairness + 1 })) ∧
    (∀ f rest, u.transitQueue ≠ [] → u.ownQueue = f :: rest → u.fairness = 4 →
      u.arbitrate = some (f, { u with ownQueue := rest, fairness := 0 }))

/-- R155, R156, R158 to R161: a heard frame's origin, the order of dispatch, a ticket that comes home undelivered, a frame with
this station's address, one to all consumed and then repeated, and repeating with its two drops. R115, R164, R165, R167,
R170: what a frame to all makes of the peer table and the Fill Board, and the ROLL that answers or recalls. That the ROLL is
offered to a FREE transmitter before the repeat is log 30. R166, R169: the order of the peer table, and the next downstream
peer. -/
def Obligations.FramesForAllAreTaken : Prop :=
  (∀ (s : State) (origin a : Nat), SameBut [.ltu] s (s.hear origin) ∧
    (s.hear origin).ltu = { s.ltu with peers := (s.hear origin).ltu.peers } ∧
    (s.hear origin).peer a =
      (s.peer a).map (fun p => if a = origin then { p with lastHeard := s.ctl.clock } else p)) ∧
  (∀ (s : State) (f : Frame),
    (f.origin = s.ctl.address → f.kind = 0x22 → s.dispatch f = s.undelivered f) ∧
    (f.origin = s.ctl.address → f.kind ≠ 0x11 → f.kind ≠ 0x22 → s.dispatch f = s) ∧
    (f.origin ≠ s.ctl.address → f.dest = s.ctl.address →
      (f.kind = 0x22 → s.dispatch f = s.ticketArrival f.origin f.payload) ∧
      (f.kind ≠ 0x22 → s.dispatch f = s.count .lineDrops)) ∧
    (f.origin ≠ s.ctl.address → f.dest ≠ s.ctl.address → f.dest = 0 → s.dispatch f = (s.consumeAll f).repeatFrame f) ∧
    (f.origin ≠ s.ctl.address → f.dest ≠ s.ctl.address → f.dest ≠ 0 → s.dispatch f = s.repeatFrame f) ∧
    (f.hop < 2 ∨ 6 ≤ s.ltu.transitQueue.length → s.repeatFrame f = s.count .queueDrops) ∧
    (2 ≤ f.hop → s.ltu.transitQueue.length < 6 → s.repeatFrame f = (s.setLtu { s.ltu with
      transitQueue := s.ltu.transitQueue ++ [{ f with hop := f.hop - 1 }] }).askArbiter)) ∧
  (∀ (s : State) (f : Frame),
    let s1 := s.removePeer f.dest
    (f.dest = s.ctl.address ∨ s.peer f.dest = none → s1 = s) ∧
    (f.dest ≠ s.ctl.address → s.peer f.dest ≠ none → SameBut [.ltu, .bins] s s1 ∧
      s1.ltu = { s.ltu with peers := s.ltu.peers.filter (fun p => decide (p.address ≠ f.dest)) } ∧
      s1.bins = { s.bins with board := s.bins.board.filter (fun e => decide (e.peer ≠ f.dest)) }) ∧
    (∀ p, readdressed f.payload = false → s1.nextPeer = some p →
      s.undelivered f = s1.enqueueOwn ⟨0x22, p.address, s.ctl.address, 32, setReaddressed f.payload⟩) ∧
    (readdressed f.payload = true ∨ s1.nextPeer = none → s.undelivered f = s1.count .queueDrops)) ∧
  (∀ payload : List Byte, 14 ≤ payload.length →
    (setReaddressed payload).length = payload.length ∧ readdressed (setReaddressed payload) = true ∧
    decodeTicket (setReaddressed payload) = decodeTicket payload ∧
    ∀ i, i ≠ 12 → (setReaddressed payload)[i]? = payload[i]?) ∧
  (∀ r : RollContent, r.takeable = true ↔ r.family = 0x31 ∧ r.model = 0x16 ∧ r.gateDist ≤ 1023 ∧ r.binCount ≤ 4 ∧
    1 ≤ r.exitX ∧ r.exitX ≤ 1024) ∧
  (∀ payload : List Byte, binstateOk payload = true ↔ (decodeHeader payload).mode ≠ none ∧
    (∀ r ∈ decodeReports payload, (1 ≤ r.bin ∧ r.bin ≤ 4) ∧ (1 ≤ r.cls ∧ r.cls ≤ 12) ∧
      (1 ≤ r.capacity ∧ r.capacity ≤ 1000) ∧ r.fill ≤ r.capacity ∧ r.pending ≤ 8 ∧ r.state ≠ none) ∧
    ((decodeReports payload).map (fun r => r.bin)).Nodup) ∧
  (∀ (s : State) (before after : List PeerEntry) (own : PeerEntry), s.ltu.peers = before ++ own :: after →
    own.address = s.ctl.address → (∀ x ∈ before, x.address ≠ s.ctl.address) →
    ((∀ x ∈ after, x.tracking = false) → s.nextPeer = none) ∧
    ∀ x p y, after = x ++ p :: y → (∀ q ∈ x, q.tracking = false) → p.tracking = true → s.nextPeer = some p) ∧
  (∀ (s : State) (f : Frame), f.kind = 0x11 →
    let r := decodeRoll f.payload
    (r.takeable = false → s.consumeAll f = s.count .lineDrops) ∧
    (r.takeable = true →
      (∃ p, (s.consumeAll f).peer f.origin = some p ∧ p.gateDist = r.gateDist ∧ p.digest = r.digest ∧
        (p.digestEqual = true ↔ s.classifier.digest = some r.digest) ∧
        p.lastHeard = s.ctl.clock ∧ (s.peer f.origin = none → p.tracking = false) ∧
        (∀ old, s.peer f.origin = some old → p.tracking = old.tracking)) ∧
      (∃ before p after, (s.consumeAll f).ltu.peers = before ++ p :: after ∧ p.address = f.origin ∧
        s.ltu.peers.filter (fun q => decide (q.address ≠ f.origin)) = before ++ after ∧
        (∀ q ∈ before, ¬ PeerLt p q) ∧ ∀ q, after.head? = some q → PeerLt p q) ∧
      (s.ltu.peers.Pairwise PeerLt → (s.consumeAll f).ltu.peers.Pairwise PeerLt) ∧
      (∀ a, a ≠ f.origin → (s.consumeAll f).peer a = s.peer a) ∧ (s.consumeAll f).bins = s.bins ∧
      (r.newFlag = false → (s.consumeAll f).ltu.ownQueue = s.ltu.ownQueue) ∧
      (r.newFlag = true → s.port.link = .joining ∨ s.port.link = .joined → (∀ g ∈ s.ltu.ownQueue, g.kind ≠ 0x11) →
        OwnJoins s (s.consumeAll f) (s.rollFrame false)) ∧
      ((∃ g ∈ s.ltu.ownQueue, g.kind = 0x11) ∨ s.port.link = .severed ∨ s.port.link = .bypassed →
        (s.consumeAll f).ltu.ownQueue = s.ltu.ownQueue))) ∧
  (∀ (s : State) (f : Frame), f.kind = 0x33 → (s.peer f.origin).isSome = true →
    (binstateOk f.payload = false → s.consumeAll f = s.count .lineDrops) ∧
    (binstateOk f.payload = true →
      (s.consumeAll f).bins.board = s.bins.board.filter (fun e => e.peer != f.origin) ++
        (decodeReports f.payload).map (boardEntry f.origin (decodeHeader f.payload) s.ctl.clock) ∧
      (∀ p, (s.consumeAll f).peer f.origin = some p → p.tracking = (decodeHeader f.payload).tracking) ∧
      (∀ a, a ≠ f.origin → (s.consumeAll f).peer a = s.peer a) ∧ (s.consumeAll f).bins.recs = s.bins.recs ∧
      (s.consumeAll f).counters = s.counters)) ∧
  (∀ (s : State) (f : Frame), f.kind = 0x44 → (s.peer f.origin).isSome = true → s.consumeAll f = s) ∧
  (∀ (s : State) (f : Frame), f.kind ≠ 0x11 → f.kind ≠ 0x33 → f.kind ≠ 0x44 → s.consumeAll f = s) ∧
  (∀ (s : State) (f : Frame), f.kind = 0x33 ∨ f.kind = 0x44 → (s.peer f.origin).isNone = true →
    (s.port.link ≠ .joined ∨ s.ltu.recallTimer ≠ none → s.consumeAll f = s) ∧
    (s.port.link = .joined → s.ltu.recallTimer = none →
      (s.consumeAll f).ltu.recallTimer = some 1000000000 ∧ (s.consumeAll f).ltu.peers = s.ltu.peers ∧
      OwnJoins s (s.consumeAll f) (s.rollFrame true)))

/-- R91, R170, R168, R116, R188: the foreign attention pulse's end, the recall timer, a peer's silence, and the STATUS period
timer, whose frame a FREE transmitter sends at once by the model's choice (log 30). -/
def Obligations.PulseAndTrafficTimers : Prop :=
  ∀ (s : State) (dt : Nat), s.bins.asked = false →
    (RunsOut s.trk.foreignPulse dt →
      ∃ t, exec (.foreignAttentionPulseEnd dt) s = .next t ∧ t.trk = { s.trk with foreignPulse := none } ∧
        SameBut [.trk] (s.elapse dt) t) ∧
    (RunsOut s.ltu.recallTimer dt →
      ∃ t, exec (.recallTimerExpiry dt) s = .next t ∧ t.ltu = { s.ltu with recallTimer := none } ∧
        SameBut [.ltu] (s.elapse dt) t) ∧
    (∀ (a : Nat) (p : PeerEntry), s.port.link ≠ .bypassed → a ≠ s.ctl.address → s.peer a = some p →
      3000 ≤ (s.elapse dt).since p.lastHeard →
      ∃ t, exec (.peerSilenceTimeout dt a) s = .next t ∧ t.peer a = none ∧
        t.ltu.peers = s.ltu.peers.filter (fun q => q.address != a) ∧
        t.bins.board = s.bins.board.filter (fun e => e.peer != a) ∧ t.bins.recs = s.bins.recs ∧
        SameBut [.ltu, .bins] (s.elapse dt) t) ∧
    (s.running = true → RunsOut s.ctl.statusTimer dt →
      ∃ t, exec (.statusPeriodTimer dt) s = .next t ∧ t.ctl.statusTimer = some 5000000000 ∧
        ControllerIs t { (s.elapse dt).ctl with statusTimer := some 5000000000 } ∧
        (s.port.link ≠ .bypassed → OwnJoins s t (s.elapse dt).statusFrame) ∧
        SameBut [.mode, .port, .ltu, .counters] (s.elapse dt) t)

/-! ### Modes -/

/-- R182, R183: the service key. At the entry to SERVICE the scheduled entries pass with SERVICE (R132), the pulses are cut
(R133), the bins' states are saved and HELD is shown (R106); at the exit each configured bin takes the state R108 finds, and
every ejector fault clears and is shown no more (R96, R131). -/
def Obligations.ServiceKeyTogglesMode : Prop :=
  (∀ (s : State) (dt : Nat) (turned : Bool), s.running = true → turned ≠ s.pins.keyTurned → s.bins.asked = false →
    ∃ t, exec (.serviceKeyChange dt turned) s = .next t ∧ t.pins.keyTurned = turned ∧ t.ctl.mode = s.ctl.mode ∧
      t.ctl.keyTurned = s.ctl.keyTurned ∧
      t.ctl.keyTimer = (if turned = s.ctl.keyTurned then none else some 50000000) ∧
      ControllerIs t { (s.elapse dt).ctl with keyTimer := if turned = s.ctl.keyTurned then none else some 50000000 } ∧
      SameBut [.mode, .pins] (s.elapse dt) t) ∧
  (∀ (s : State) (dt : Nat), RunsOut s.ctl.keyTimer dt → s.ctl.keyTurned = false → s.pins.keyTurned = true →
    (s.ctl.mode = .run →
      ∃ t, exec (.serviceKeyPress dt) s = .next t ∧ t.ctl.mode = .service ∧ t.ctl.keyTurned = true ∧
        (∀ b, (t.ej.get b).schedule = [] ∧ (t.ej.get b).state ≠ .pulsing ∧ Cancelled s t b .service) ∧
        CutsCounted s t ∧
        (∃ q, t.bins.snapshot = some q ∧ ∀ b, q.get b = ⟨(s.bins.recs.get b).state, .kept⟩) ∧
        (∀ b, (t.bins.recs.get b).fill = (s.bins.recs.get b).fill ∧
          (t.bins.recs.get b).pending = (s.bins.recs.get b).pending - (s.ej.get b).schedule.length ∧
          (t.bins.recs.get b).state =
            if (s.binCfg b).configured = true ∧ (s.bins.recs.get b).state ≠ .absent then .held
            else (s.bins.recs.get b).state) ∧
        t.bins.periodTimer = some 500000000 ∧
        ControllerIs t { (s.elapse dt).ctl with mode := .service, keyTurned := true, keyTimer := none } ∧
        SameBut [.mode, .retention, .trk, .bins, .ej, .port, .ltu, .counters] (s.elapse dt) t) ∧
    (s.ctl.mode = .service →
      ∃ t, exec (.serviceKeyPress dt) s = .next t ∧ t.ctl.mode = .run ∧ t.ctl.keyTurned = true ∧
        t.bins.snapshot = none ∧
        (∀ q, s.bins.snapshot = some q → ∀ b,
          ((s.binCfg b).configured = false → (t.bins.recs.get b).state = (s.bins.recs.get b).state) ∧
          ((s.binCfg b).configured = true →
            let r := t.bins.recs.get b
            let active := (s.binCfg b).fullFitted = true ∧ (s.bins.full.get b).settled = true
            let there := (s.bins.present.get b).settled = true
            (¬ there ∨ (q.get b).mark = .replaced → r.state = .absent ∧ r.fill = 0 ∧ r.pending = 0) ∧
            (there → (q.get b).mark = .fresh → r.fill = 0 ∧ r.state = if active then .full else .opened) ∧
            (there → (q.get b).mark = .kept → r.fill = (s.bins.recs.get b).fill ∧
              r.state = if r.fill = (s.binCfg b).capacity ∨ active then .full
                else if (s.binCfg b).near ≤ 16 * r.fill / (s.binCfg b).capacity then .near else .opened))) ∧
        (∀ b, (t.ej.get b).state ≠ .fault ∧ (t.ej.get b).misses = 0 ∧
          ((s.ej.get b).state = .fault → (t.ej.get b).state = .ready ∧ (t.bins.recs.get b).faultShown = false) ∧
          ((s.ej.get b).state ≠ .fault → (t.ej.get b).state = (s.ej.get b).state ∧
            (t.bins.recs.get b).faultShown = (s.bins.recs.get b).faultShown)) ∧ t.bins.periodTimer = some 500000000 ∧
        ControllerIs t { (s.elapse dt).ctl with mode := .run, keyTurned := true, keyTimer := none } ∧
        SameBut [.mode, .retention, .bins, .ej, .port, .ltu, .counters] (s.elapse dt) t) ∧
    (s.ctl.mode = .safe → s.bins.asked = false →
      ∃ t, exec (.serviceKeyPress dt) s = .next t ∧ t.ctl.mode = .safe ∧ t.ctl.keyTurned = true ∧
        ControllerIs t { (s.elapse dt).ctl with keyTurned := true, keyTimer := none } ∧
        SameBut [.mode] (s.elapse dt) t)) ∧
  (∀ (s : State) (dt : Nat), s.running = true → RunsOut s.ctl.keyTimer dt → s.ctl.keyTurned = true →
    s.pins.keyTurned = false → s.bins.asked = false →
    ∃ t, exec (.keySettledRelease dt) s = .next t ∧ t.ctl.mode = s.ctl.mode ∧ t.ctl.keyTurned = false ∧
      t.ctl.keyTimer = none ∧ ControllerIs t { (s.elapse dt).ctl with keyTurned := false, keyTimer := none } ∧
      SameBut [.mode] (s.elapse dt) t)

/-- R184, R185, R126, R133: the safety chain. An opening cuts the pulses, counting each, and from RUN the scheduled entries pass
with SAFETY (R132); in SAFE an opening ends the closing wait (R185). Each change of mode asks for a BINSTATE (R111). -/
def Obligations.SafetyChainMovesMode : Prop :=
  (∀ (s : State) (dt : Nat), s.ctl.mode = .run ∨ s.ctl.mode = .service →
    ∃ t, exec (.safetyChainOpening dt) s = .next t ∧ t.ctl.mode = .safe ∧ t.ctl.heldMode = some s.ctl.mode ∧
      t.ctl.chainClosed = false ∧ t.pins.chainClosed = false ∧ (∀ b, (t.ej.get b).state ≠ .pulsing) ∧
      CutsCounted s t ∧
      (s.ctl.mode = .run → ∀ b, (t.ej.get b).schedule = [] ∧ Cancelled s t b .safety ∧
        (t.bins.recs.get b).pending = (s.bins.recs.get b).pending - (s.ej.get b).schedule.length) ∧
      (s.ctl.mode = .service → t.trk = (s.elapse dt).trk ∧ t.bins.recs = s.bins.recs) ∧ t.bins.snapshot = s.bins.snapshot ∧
      t.bins.periodTimer = some 500000000 ∧
      ControllerIs t { (s.elapse dt).ctl with mode := .safe, heldMode := some s.ctl.mode, chainClosed := false, chainTimer := none } ∧
      SameBut [.mode, .retention, .trk, .bins, .ej, .port, .ltu, .pins, .counters] (s.elapse dt) t) ∧
  (∀ (s : State) (dt : Nat), s.ctl.mode = .safe → s.bins.asked = false →
    ∃ t, exec (.safetyChainOpening dt) s = .next t ∧ t.ctl.mode = .safe ∧ t.pins.chainClosed = false ∧
      t.ctl.chainTimer = none ∧ t.ctl.heldMode = s.ctl.heldMode ∧
      ControllerIs t { (s.elapse dt).ctl with chainTimer := none } ∧ SameBut [.mode, .pins] (s.elapse dt) t) ∧
  (∀ (s : State) (dt : Nat), s.ctl.mode = .safe → s.pins.chainClosed = false → s.bins.asked = false →
    ∃ t, exec (.safetyChainClosing dt) s = .next t ∧ t.ctl.mode = .safe ∧ t.pins.chainClosed = true ∧
      t.ctl.chainTimer = some 200000000 ∧ ControllerIs t { (s.elapse dt).ctl with chainTimer := some 200000000 } ∧
      SameBut [.mode, .pins] (s.elapse dt) t) ∧
  (∀ (s : State) (dt : Nat) (m : Mode), s.ctl.mode = .safe → RunsOut s.ctl.chainTimer dt → s.ctl.heldMode = some m →
    ∃ t, exec (.safeExit dt) s = .next t ∧ t.ctl.mode = m ∧ t.ctl.heldMode = none ∧ t.ctl.chainClosed = true ∧
      t.bins.snapshot = s.bins.snapshot ∧ t.bins.recs = s.bins.recs ∧
      (m = .run ∨ m = .service → t.bins.periodTimer = some 500000000) ∧
      ControllerIs t { (s.elapse dt).ctl with mode := m, heldMode := none, chainClosed := true, chainTimer := none } ∧
      SameBut (.mode :: binstateParts) (s.elapse dt) t)

/-! ### Invariants and encodings -/

/-- R126: every step keeps the outputs where they may be on. -/
def Obligations.StepKeepsOutputsAllowed : Prop :=
  ∀ s t : State, OutputsAllowed s → step s = .next t → OutputsAllowed t

/-- R3: every step keeps the position in range while the station runs. -/
def Obligations.StepKeepsPositionInRange : Prop :=
  ∀ s t : State, PositionInRange s → step s = .next t → PositionInRange t

/-- Section 6.1: every step keeps the laws of the bin record: fill and pending within the capacity, an ABSENT bin with neither,
and pending the number of transit entries that name the bin. -/
def Obligations.StepKeepsBinLaws : Prop :=
  ∀ s t : State, BinLaws s → step s = .next t → BinLaws t

/-- The three invariants hold right after reset. -/
def Obligations.InvariantsHoldAtReset : Prop :=
  OutputsAllowed State.reset ∧ PositionInRange State.reset ∧ BinLaws State.reset

/-- R187: but for the two resets, no command lowers a counter; either reset sets every counter to 0. -/
def Obligations.CountersOnlyRise : Prop :=
  ∀ (c : Instr) (s t : State) (k : Counter), exec c s = .next t →
    ((∀ dt, c ≠ .powerOnReset dt) → (∀ dt, c ≠ .externalReset dt) → s.counters.get k ≤ t.counters.get k) ∧
    ((∃ dt, c = .powerOnReset dt ∨ c = .externalReset dt) → t.counters.get k = 0)

/-- R192, section 12.2: the fields of a TICKET, of a ROLL and of a BINSTATE come back from their bytes. -/
def Obligations.PayloadsRoundTrip : Prop :=
  (∀ (k : Ticket) (readdr : Bool), k.contentOk = true → k.id.serial < 4096 → k.lead < 65536 → k.passes ≤ 15 →
    k.missed ≤ 3 → (∀ i ∈ k.merged, i.serial < 4096) →
    decodeTicket (encodeTicket k readdr) = k ∧ readdressed (encodeTicket k readdr) = readdr ∧
    lengthAllowed 0x22 (encodeTicket k readdr).length = true) ∧
  (∀ (r : RollContent) (m : Mode), r.takeable = true → r.revision < 256 →
    decodeRoll (encodeRoll r m) = r ∧ (encodeRoll r m).length = 11) ∧
  (∀ (m : Mode) (c : Condition) (rest : List Byte), m.running = true →
    decodeHeader (encodeHeader m c :: rest) = ⟨some m, c.tracking, c.degraded⟩) ∧
  (∀ (m : Mode) (c : Condition) (l : List BinReport), (∀ r ∈ l, r.ok = true) →
    decodeReports (encodeHeader m c :: l.flatMap encodeReport) = l)

/-- R189, section 12.2: the fields of a STATUS frame, with the codes of the mode, the condition and the link state, the age of the
Expect List (R55), and the counters in the order of section 11.1. -/
def Obligations.StatusFrameContent : Prop :=
  ∀ s : State, s.running = true →
    let f := s.statusFrame
    (f.kind = 0x44 ∧ f.dest = 0 ∧ f.origin = s.ctl.address ∧ f.hop = 32 ∧ f.payload.length = 39) ∧
    modeOfCode (bitField (byteAt f.payload 0) 0 2) = some s.ctl.mode ∧
    bitField (byteAt f.payload 0) 2 2 = s.pos.cond.code ∧ bitField (byteAt f.payload 0) 4 2 = s.port.link.code ∧
    (byteAt f.payload 0).testBit 6 = s.pos.slipFlag ∧
    (s.gate.beams.length = 12 →
      (∀ k (h : k < s.gate.beams.length), (wordAt f.payload 1).testBit k = s.gate.beams[k].masked) ∧
      (wordAt f.payload 1).testBit 12 = s.gate.coilFault ∧ (wordAt f.payload 1).testBit 13 = s.gate.overRange) ∧
    ((bitField (byteAt f.payload 0) 0 2 = 0 ↔ s.ctl.mode = .run) ∧
      (bitField (byteAt f.payload 0) 0 2 = 1 ↔ s.ctl.mode = .service) ∧
      (bitField (byteAt f.payload 0) 0 2 = 2 ↔ s.ctl.mode = .safe)) ∧
    ((bitField (byteAt f.payload 0) 2 2 = 0 ↔ s.pos.cond = .unsynced) ∧
      (bitField (byteAt f.payload 0) 2 2 = 1 ↔ s.pos.cond = .normal) ∧
      (bitField (byteAt f.payload 0) 2 2 = 2 ↔ s.pos.cond = .fallback) ∧
      (bitField (byteAt f.payload 0) 2 2 = 3 ↔ s.pos.cond = .freeRun)) ∧
    ((bitField (byteAt f.payload 0) 4 2 = 1 ↔ s.port.link = .joining) ∧
      (bitField (byteAt f.payload 0) 4 2 = 2 ↔ s.port.link = .joined) ∧
      (bitField (byteAt f.payload 0) 4 2 = 3 ↔ s.port.link = .severed)) ∧
    wordAt f.payload 3 = s.expectAge ∧
    ((s.trk.expect = [] → s.expectAge = 0) ∧
      (s.trk.expect ≠ [] → ∃ e ∈ s.trk.expect, s.expectAge = min 65535 (s.ctl.clock - e.arrival).toNat) ∧
      ∀ e ∈ s.trk.expect, min 65535 (s.ctl.clock - e.arrival).toNat ≤ s.expectAge) ∧
    s.counters.inOrder = [s.counters.strays, s.counters.matched, s.counters.merges, s.counters.lost,
      s.counters.lateDropped, s.counters.adopted, s.counters.untracked, s.counters.ejected, s.counters.missed,
      s.counters.passedToPeer, s.counters.toEndCatch, s.counters.vanished, s.counters.flushed, s.counters.lineDrops,
      s.counters.queueDrops, s.counters.pitchSlips] ∧
    (∀ k (h : k < s.counters.inOrder.length), s.counters.inOrder[k] ≤ 65535 →
      wordAt f.payload (5 + 2 * k) = s.counters.inOrder[k]) ∧
    (s.counters.cuts ≤ 65535 → wordAt f.payload 37 = s.counters.cuts)
end

