-- ==== Sys2Proof/Laws/State.lean ====
section
/-! SUPPORT. What each replacement of a block's state leaves in each field. -/

namespace Sys2Proof.Machine

@[simp] theorem setCfg_cfg (s : State) (x : Settings) : (s.setCfg x).cfg = x := rfl
@[simp] theorem setCfg_retention (s : State) (x : Settings) : (s.setCfg x).retention = s.retention := rfl
@[simp] theorem setCfg_pos (s : State) (x : Settings) : (s.setCfg x).pos = s.pos := rfl
@[simp] theorem setCfg_gate (s : State) (x : Settings) : (s.setCfg x).gate = s.gate := rfl
@[simp] theorem setCfg_classifier (s : State) (x : Settings) : (s.setCfg x).classifier = s.classifier := rfl
@[simp] theorem setCfg_trk (s : State) (x : Settings) : (s.setCfg x).trk = s.trk := rfl
@[simp] theorem setCfg_bins (s : State) (x : Settings) : (s.setCfg x).bins = s.bins := rfl
@[simp] theorem setCfg_ej (s : State) (x : Settings) : (s.setCfg x).ej = s.ej := rfl
@[simp] theorem setCfg_port (s : State) (x : Settings) : (s.setCfg x).port = s.port := rfl
@[simp] theorem setCfg_ltu (s : State) (x : Settings) : (s.setCfg x).ltu = s.ltu := rfl
@[simp] theorem setCfg_ctl (s : State) (x : Settings) : (s.setCfg x).ctl = s.ctl := rfl
@[simp] theorem setCfg_pins (s : State) (x : Settings) : (s.setCfg x).pins = s.pins := rfl
@[simp] theorem setCfg_counters (s : State) (x : Settings) : (s.setCfg x).counters = s.counters := rfl
@[simp] theorem setCfg_pending (s : State) (x : Settings) : (s.setCfg x).pending = s.pending := rfl

@[simp] theorem setRetention_cfg (s : State) (x : Retention) : (s.setRetention x).cfg = s.cfg := rfl
@[simp] theorem setRetention_retention (s : State) (x : Retention) : (s.setRetention x).retention = x := rfl
@[simp] theorem setRetention_pos (s : State) (x : Retention) : (s.setRetention x).pos = s.pos := rfl
@[simp] theorem setRetention_gate (s : State) (x : Retention) : (s.setRetention x).gate = s.gate := rfl
@[simp] theorem setRetention_classifier (s : State) (x : Retention) : (s.setRetention x).classifier = s.classifier := rfl
@[simp] theorem setRetention_trk (s : State) (x : Retention) : (s.setRetention x).trk = s.trk := rfl
@[simp] theorem setRetention_bins (s : State) (x : Retention) : (s.setRetention x).bins = s.bins := rfl
@[simp] theorem setRetention_ej (s : State) (x : Retention) : (s.setRetention x).ej = s.ej := rfl
@[simp] theorem setRetention_port (s : State) (x : Retention) : (s.setRetention x).port = s.port := rfl
@[simp] theorem setRetention_ltu (s : State) (x : Retention) : (s.setRetention x).ltu = s.ltu := rfl
@[simp] theorem setRetention_ctl (s : State) (x : Retention) : (s.setRetention x).ctl = s.ctl := rfl
@[simp] theorem setRetention_pins (s : State) (x : Retention) : (s.setRetention x).pins = s.pins := rfl
@[simp] theorem setRetention_counters (s : State) (x : Retention) : (s.setRetention x).counters = s.counters := rfl
@[simp] theorem setRetention_pending (s : State) (x : Retention) : (s.setRetention x).pending = s.pending := rfl

@[simp] theorem setPos_cfg (s : State) (x : PositionUnit) : (s.setPos x).cfg = s.cfg := rfl
@[simp] theorem setPos_retention (s : State) (x : PositionUnit) : (s.setPos x).retention = s.retention := rfl
@[simp] theorem setPos_pos (s : State) (x : PositionUnit) : (s.setPos x).pos = x := rfl
@[simp] theorem setPos_gate (s : State) (x : PositionUnit) : (s.setPos x).gate = s.gate := rfl
@[simp] theorem setPos_classifier (s : State) (x : PositionUnit) : (s.setPos x).classifier = s.classifier := rfl
@[simp] theorem setPos_trk (s : State) (x : PositionUnit) : (s.setPos x).trk = s.trk := rfl
@[simp] theorem setPos_bins (s : State) (x : PositionUnit) : (s.setPos x).bins = s.bins := rfl
@[simp] theorem setPos_ej (s : State) (x : PositionUnit) : (s.setPos x).ej = s.ej := rfl
@[simp] theorem setPos_port (s : State) (x : PositionUnit) : (s.setPos x).port = s.port := rfl
@[simp] theorem setPos_ltu (s : State) (x : PositionUnit) : (s.setPos x).ltu = s.ltu := rfl
@[simp] theorem setPos_ctl (s : State) (x : PositionUnit) : (s.setPos x).ctl = s.ctl := rfl
@[simp] theorem setPos_pins (s : State) (x : PositionUnit) : (s.setPos x).pins = s.pins := rfl
@[simp] theorem setPos_counters (s : State) (x : PositionUnit) : (s.setPos x).counters = s.counters := rfl
@[simp] theorem setPos_pending (s : State) (x : PositionUnit) : (s.setPos x).pending = s.pending := rfl

@[simp] theorem setGate_cfg (s : State) (x : GateUnit) : (s.setGate x).cfg = s.cfg := rfl
@[simp] theorem setGate_retention (s : State) (x : GateUnit) : (s.setGate x).retention = s.retention := rfl
@[simp] theorem setGate_pos (s : State) (x : GateUnit) : (s.setGate x).pos = s.pos := rfl
@[simp] theorem setGate_gate (s : State) (x : GateUnit) : (s.setGate x).gate = x := rfl
@[simp] theorem setGate_classifier (s : State) (x : GateUnit) : (s.setGate x).classifier = s.classifier := rfl
@[simp] theorem setGate_trk (s : State) (x : GateUnit) : (s.setGate x).trk = s.trk := rfl
@[simp] theorem setGate_bins (s : State) (x : GateUnit) : (s.setGate x).bins = s.bins := rfl
@[simp] theorem setGate_ej (s : State) (x : GateUnit) : (s.setGate x).ej = s.ej := rfl
@[simp] theorem setGate_port (s : State) (x : GateUnit) : (s.setGate x).port = s.port := rfl
@[simp] theorem setGate_ltu (s : State) (x : GateUnit) : (s.setGate x).ltu = s.ltu := rfl
@[simp] theorem setGate_ctl (s : State) (x : GateUnit) : (s.setGate x).ctl = s.ctl := rfl
@[simp] theorem setGate_pins (s : State) (x : GateUnit) : (s.setGate x).pins = s.pins := rfl
@[simp] theorem setGate_counters (s : State) (x : GateUnit) : (s.setGate x).counters = s.counters := rfl
@[simp] theorem setGate_pending (s : State) (x : GateUnit) : (s.setGate x).pending = s.pending := rfl

@[simp] theorem setClassifier_cfg (s : State) (x : ClassifierUnit) : (s.setClassifier x).cfg = s.cfg := rfl
@[simp] theorem setClassifier_retention (s : State) (x : ClassifierUnit) : (s.setClassifier x).retention = s.retention := rfl
@[simp] theorem setClassifier_pos (s : State) (x : ClassifierUnit) : (s.setClassifier x).pos = s.pos := rfl
@[simp] theorem setClassifier_gate (s : State) (x : ClassifierUnit) : (s.setClassifier x).gate = s.gate := rfl
@[simp] theorem setClassifier_classifier (s : State) (x : ClassifierUnit) : (s.setClassifier x).classifier = x := rfl
@[simp] theorem setClassifier_trk (s : State) (x : ClassifierUnit) : (s.setClassifier x).trk = s.trk := rfl
@[simp] theorem setClassifier_bins (s : State) (x : ClassifierUnit) : (s.setClassifier x).bins = s.bins := rfl
@[simp] theorem setClassifier_ej (s : State) (x : ClassifierUnit) : (s.setClassifier x).ej = s.ej := rfl
@[simp] theorem setClassifier_port (s : State) (x : ClassifierUnit) : (s.setClassifier x).port = s.port := rfl
@[simp] theorem setClassifier_ltu (s : State) (x : ClassifierUnit) : (s.setClassifier x).ltu = s.ltu := rfl
@[simp] theorem setClassifier_ctl (s : State) (x : ClassifierUnit) : (s.setClassifier x).ctl = s.ctl := rfl
@[simp] theorem setClassifier_pins (s : State) (x : ClassifierUnit) : (s.setClassifier x).pins = s.pins := rfl
@[simp] theorem setClassifier_counters (s : State) (x : ClassifierUnit) : (s.setClassifier x).counters = s.counters := rfl
@[simp] theorem setClassifier_pending (s : State) (x : ClassifierUnit) : (s.setClassifier x).pending = s.pending := rfl

@[simp] theorem setTrk_cfg (s : State) (x : TrackingUnit) : (s.setTrk x).cfg = s.cfg := rfl
@[simp] theorem setTrk_retention (s : State) (x : TrackingUnit) : (s.setTrk x).retention = s.retention := rfl
@[simp] theorem setTrk_pos (s : State) (x : TrackingUnit) : (s.setTrk x).pos = s.pos := rfl
@[simp] theorem setTrk_gate (s : State) (x : TrackingUnit) : (s.setTrk x).gate = s.gate := rfl
@[simp] theorem setTrk_classifier (s : State) (x : TrackingUnit) : (s.setTrk x).classifier = s.classifier := rfl
@[simp] theorem setTrk_trk (s : State) (x : TrackingUnit) : (s.setTrk x).trk = x := rfl
@[simp] theorem setTrk_bins (s : State) (x : TrackingUnit) : (s.setTrk x).bins = s.bins := rfl
@[simp] theorem setTrk_ej (s : State) (x : TrackingUnit) : (s.setTrk x).ej = s.ej := rfl
@[simp] theorem setTrk_port (s : State) (x : TrackingUnit) : (s.setTrk x).port = s.port := rfl
@[simp] theorem setTrk_ltu (s : State) (x : TrackingUnit) : (s.setTrk x).ltu = s.ltu := rfl
@[simp] theorem setTrk_ctl (s : State) (x : TrackingUnit) : (s.setTrk x).ctl = s.ctl := rfl
@[simp] theorem setTrk_pins (s : State) (x : TrackingUnit) : (s.setTrk x).pins = s.pins := rfl
@[simp] theorem setTrk_counters (s : State) (x : TrackingUnit) : (s.setTrk x).counters = s.counters := rfl
@[simp] theorem setTrk_pending (s : State) (x : TrackingUnit) : (s.setTrk x).pending = s.pending := rfl

@[simp] theorem setBins_cfg (s : State) (x : BinUnit) : (s.setBins x).cfg = s.cfg := rfl
@[simp] theorem setBins_retention (s : State) (x : BinUnit) : (s.setBins x).retention = s.retention := rfl
@[simp] theorem setBins_pos (s : State) (x : BinUnit) : (s.setBins x).pos = s.pos := rfl
@[simp] theorem setBins_gate (s : State) (x : BinUnit) : (s.setBins x).gate = s.gate := rfl
@[simp] theorem setBins_classifier (s : State) (x : BinUnit) : (s.setBins x).classifier = s.classifier := rfl
@[simp] theorem setBins_trk (s : State) (x : BinUnit) : (s.setBins x).trk = s.trk := rfl
@[simp] theorem setBins_bins (s : State) (x : BinUnit) : (s.setBins x).bins = x := rfl
@[simp] theorem setBins_ej (s : State) (x : BinUnit) : (s.setBins x).ej = s.ej := rfl
@[simp] theorem setBins_port (s : State) (x : BinUnit) : (s.setBins x).port = s.port := rfl
@[simp] theorem setBins_ltu (s : State) (x : BinUnit) : (s.setBins x).ltu = s.ltu := rfl
@[simp] theorem setBins_ctl (s : State) (x : BinUnit) : (s.setBins x).ctl = s.ctl := rfl
@[simp] theorem setBins_pins (s : State) (x : BinUnit) : (s.setBins x).pins = s.pins := rfl
@[simp] theorem setBins_counters (s : State) (x : BinUnit) : (s.setBins x).counters = s.counters := rfl
@[simp] theorem setBins_pending (s : State) (x : BinUnit) : (s.setBins x).pending = s.pending := rfl

@[simp] theorem setEj_cfg (s : State) (x : Quad Ejector) : (s.setEj x).cfg = s.cfg := rfl
@[simp] theorem setEj_retention (s : State) (x : Quad Ejector) : (s.setEj x).retention = s.retention := rfl
@[simp] theorem setEj_pos (s : State) (x : Quad Ejector) : (s.setEj x).pos = s.pos := rfl
@[simp] theorem setEj_gate (s : State) (x : Quad Ejector) : (s.setEj x).gate = s.gate := rfl
@[simp] theorem setEj_classifier (s : State) (x : Quad Ejector) : (s.setEj x).classifier = s.classifier := rfl
@[simp] theorem setEj_trk (s : State) (x : Quad Ejector) : (s.setEj x).trk = s.trk := rfl
@[simp] theorem setEj_bins (s : State) (x : Quad Ejector) : (s.setEj x).bins = s.bins := rfl
@[simp] theorem setEj_ej (s : State) (x : Quad Ejector) : (s.setEj x).ej = x := rfl
@[simp] theorem setEj_port (s : State) (x : Quad Ejector) : (s.setEj x).port = s.port := rfl
@[simp] theorem setEj_ltu (s : State) (x : Quad Ejector) : (s.setEj x).ltu = s.ltu := rfl
@[simp] theorem setEj_ctl (s : State) (x : Quad Ejector) : (s.setEj x).ctl = s.ctl := rfl
@[simp] theorem setEj_pins (s : State) (x : Quad Ejector) : (s.setEj x).pins = s.pins := rfl
@[simp] theorem setEj_counters (s : State) (x : Quad Ejector) : (s.setEj x).counters = s.counters := rfl
@[simp] theorem setEj_pending (s : State) (x : Quad Ejector) : (s.setEj x).pending = s.pending := rfl

@[simp] theorem setPort_cfg (s : State) (x : LoopPort) : (s.setPort x).cfg = s.cfg := rfl
@[simp] theorem setPort_retention (s : State) (x : LoopPort) : (s.setPort x).retention = s.retention := rfl
@[simp] theorem setPort_pos (s : State) (x : LoopPort) : (s.setPort x).pos = s.pos := rfl
@[simp] theorem setPort_gate (s : State) (x : LoopPort) : (s.setPort x).gate = s.gate := rfl
@[simp] theorem setPort_classifier (s : State) (x : LoopPort) : (s.setPort x).classifier = s.classifier := rfl
@[simp] theorem setPort_trk (s : State) (x : LoopPort) : (s.setPort x).trk = s.trk := rfl
@[simp] theorem setPort_bins (s : State) (x : LoopPort) : (s.setPort x).bins = s.bins := rfl
@[simp] theorem setPort_ej (s : State) (x : LoopPort) : (s.setPort x).ej = s.ej := rfl
@[simp] theorem setPort_port (s : State) (x : LoopPort) : (s.setPort x).port = x := rfl
@[simp] theorem setPort_ltu (s : State) (x : LoopPort) : (s.setPort x).ltu = s.ltu := rfl
@[simp] theorem setPort_ctl (s : State) (x : LoopPort) : (s.setPort x).ctl = s.ctl := rfl
@[simp] theorem setPort_pins (s : State) (x : LoopPort) : (s.setPort x).pins = s.pins := rfl
@[simp] theorem setPort_counters (s : State) (x : LoopPort) : (s.setPort x).counters = s.counters := rfl
@[simp] theorem setPort_pending (s : State) (x : LoopPort) : (s.setPort x).pending = s.pending := rfl

@[simp] theorem setLtu_cfg (s : State) (x : LoopTraffic) : (s.setLtu x).cfg = s.cfg := rfl
@[simp] theorem setLtu_retention (s : State) (x : LoopTraffic) : (s.setLtu x).retention = s.retention := rfl
@[simp] theorem setLtu_pos (s : State) (x : LoopTraffic) : (s.setLtu x).pos = s.pos := rfl
@[simp] theorem setLtu_gate (s : State) (x : LoopTraffic) : (s.setLtu x).gate = s.gate := rfl
@[simp] theorem setLtu_classifier (s : State) (x : LoopTraffic) : (s.setLtu x).classifier = s.classifier := rfl
@[simp] theorem setLtu_trk (s : State) (x : LoopTraffic) : (s.setLtu x).trk = s.trk := rfl
@[simp] theorem setLtu_bins (s : State) (x : LoopTraffic) : (s.setLtu x).bins = s.bins := rfl
@[simp] theorem setLtu_ej (s : State) (x : LoopTraffic) : (s.setLtu x).ej = s.ej := rfl
@[simp] theorem setLtu_port (s : State) (x : LoopTraffic) : (s.setLtu x).port = s.port := rfl
@[simp] theorem setLtu_ltu (s : State) (x : LoopTraffic) : (s.setLtu x).ltu = x := rfl
@[simp] theorem setLtu_ctl (s : State) (x : LoopTraffic) : (s.setLtu x).ctl = s.ctl := rfl
@[simp] theorem setLtu_pins (s : State) (x : LoopTraffic) : (s.setLtu x).pins = s.pins := rfl
@[simp] theorem setLtu_counters (s : State) (x : LoopTraffic) : (s.setLtu x).counters = s.counters := rfl
@[simp] theorem setLtu_pending (s : State) (x : LoopTraffic) : (s.setLtu x).pending = s.pending := rfl

@[simp] theorem setCtl_cfg (s : State) (x : ModeController) : (s.setCtl x).cfg = s.cfg := rfl
@[simp] theorem setCtl_retention (s : State) (x : ModeController) : (s.setCtl x).retention = s.retention := rfl
@[simp] theorem setCtl_pos (s : State) (x : ModeController) : (s.setCtl x).pos = s.pos := rfl
@[simp] theorem setCtl_gate (s : State) (x : ModeController) : (s.setCtl x).gate = s.gate := rfl
@[simp] theorem setCtl_classifier (s : State) (x : ModeController) : (s.setCtl x).classifier = s.classifier := rfl
@[simp] theorem setCtl_trk (s : State) (x : ModeController) : (s.setCtl x).trk = s.trk := rfl
@[simp] theorem setCtl_bins (s : State) (x : ModeController) : (s.setCtl x).bins = s.bins := rfl
@[simp] theorem setCtl_ej (s : State) (x : ModeController) : (s.setCtl x).ej = s.ej := rfl
@[simp] theorem setCtl_port (s : State) (x : ModeController) : (s.setCtl x).port = s.port := rfl
@[simp] theorem setCtl_ltu (s : State) (x : ModeController) : (s.setCtl x).ltu = s.ltu := rfl
@[simp] theorem setCtl_ctl (s : State) (x : ModeController) : (s.setCtl x).ctl = x := rfl
@[simp] theorem setCtl_pins (s : State) (x : ModeController) : (s.setCtl x).pins = s.pins := rfl
@[simp] theorem setCtl_counters (s : State) (x : ModeController) : (s.setCtl x).counters = s.counters := rfl
@[simp] theorem setCtl_pending (s : State) (x : ModeController) : (s.setCtl x).pending = s.pending := rfl

@[simp] theorem setPins_cfg (s : State) (x : Pins) : (s.setPins x).cfg = s.cfg := rfl
@[simp] theorem setPins_retention (s : State) (x : Pins) : (s.setPins x).retention = s.retention := rfl
@[simp] theorem setPins_pos (s : State) (x : Pins) : (s.setPins x).pos = s.pos := rfl
@[simp] theorem setPins_gate (s : State) (x : Pins) : (s.setPins x).gate = s.gate := rfl
@[simp] theorem setPins_classifier (s : State) (x : Pins) : (s.setPins x).classifier = s.classifier := rfl
@[simp] theorem setPins_trk (s : State) (x : Pins) : (s.setPins x).trk = s.trk := rfl
@[simp] theorem setPins_bins (s : State) (x : Pins) : (s.setPins x).bins = s.bins := rfl
@[simp] theorem setPins_ej (s : State) (x : Pins) : (s.setPins x).ej = s.ej := rfl
@[simp] theorem setPins_port (s : State) (x : Pins) : (s.setPins x).port = s.port := rfl
@[simp] theorem setPins_ltu (s : State) (x : Pins) : (s.setPins x).ltu = s.ltu := rfl
@[simp] theorem setPins_ctl (s : State) (x : Pins) : (s.setPins x).ctl = s.ctl := rfl
@[simp] theorem setPins_pins (s : State) (x : Pins) : (s.setPins x).pins = x := rfl
@[simp] theorem setPins_counters (s : State) (x : Pins) : (s.setPins x).counters = s.counters := rfl
@[simp] theorem setPins_pending (s : State) (x : Pins) : (s.setPins x).pending = s.pending := rfl

@[simp] theorem setCounters_cfg (s : State) (x : Counters) : (s.setCounters x).cfg = s.cfg := rfl
@[simp] theorem setCounters_retention (s : State) (x : Counters) : (s.setCounters x).retention = s.retention := rfl
@[simp] theorem setCounters_pos (s : State) (x : Counters) : (s.setCounters x).pos = s.pos := rfl
@[simp] theorem setCounters_gate (s : State) (x : Counters) : (s.setCounters x).gate = s.gate := rfl
@[simp] theorem setCounters_classifier (s : State) (x : Counters) : (s.setCounters x).classifier = s.classifier := rfl
@[simp] theorem setCounters_trk (s : State) (x : Counters) : (s.setCounters x).trk = s.trk := rfl
@[simp] theorem setCounters_bins (s : State) (x : Counters) : (s.setCounters x).bins = s.bins := rfl
@[simp] theorem setCounters_ej (s : State) (x : Counters) : (s.setCounters x).ej = s.ej := rfl
@[simp] theorem setCounters_port (s : State) (x : Counters) : (s.setCounters x).port = s.port := rfl
@[simp] theorem setCounters_ltu (s : State) (x : Counters) : (s.setCounters x).ltu = s.ltu := rfl
@[simp] theorem setCounters_ctl (s : State) (x : Counters) : (s.setCounters x).ctl = s.ctl := rfl
@[simp] theorem setCounters_pins (s : State) (x : Counters) : (s.setCounters x).pins = s.pins := rfl
@[simp] theorem setCounters_counters (s : State) (x : Counters) : (s.setCounters x).counters = x := rfl
@[simp] theorem setCounters_pending (s : State) (x : Counters) : (s.setCounters x).pending = s.pending := rfl

@[simp] theorem setPending_cfg (s : State) (x : List Instr) : (s.setPending x).cfg = s.cfg := rfl
@[simp] theorem setPending_retention (s : State) (x : List Instr) : (s.setPending x).retention = s.retention := rfl
@[simp] theorem setPending_pos (s : State) (x : List Instr) : (s.setPending x).pos = s.pos := rfl
@[simp] theorem setPending_gate (s : State) (x : List Instr) : (s.setPending x).gate = s.gate := rfl
@[simp] theorem setPending_classifier (s : State) (x : List Instr) : (s.setPending x).classifier = s.classifier := rfl
@[simp] theorem setPending_trk (s : State) (x : List Instr) : (s.setPending x).trk = s.trk := rfl
@[simp] theorem setPending_bins (s : State) (x : List Instr) : (s.setPending x).bins = s.bins := rfl
@[simp] theorem setPending_ej (s : State) (x : List Instr) : (s.setPending x).ej = s.ej := rfl
@[simp] theorem setPending_port (s : State) (x : List Instr) : (s.setPending x).port = s.port := rfl
@[simp] theorem setPending_ltu (s : State) (x : List Instr) : (s.setPending x).ltu = s.ltu := rfl
@[simp] theorem setPending_ctl (s : State) (x : List Instr) : (s.setPending x).ctl = s.ctl := rfl
@[simp] theorem setPending_pins (s : State) (x : List Instr) : (s.setPending x).pins = s.pins := rfl
@[simp] theorem setPending_counters (s : State) (x : List Instr) : (s.setPending x).counters = s.counters := rfl
@[simp] theorem setPending_pending (s : State) (x : List Instr) : (s.setPending x).pending = x := rfl

/-- Passing time leaves all that has no timer. -/
@[simp] theorem elapse_frame (s : State) (dt : Nat) :
    (s.elapse dt).cfg = s.cfg ∧ (s.elapse dt).retention = s.retention ∧ (s.elapse dt).classifier = s.classifier ∧
    (s.elapse dt).pins = s.pins ∧ (s.elapse dt).counters = s.counters ∧ (s.elapse dt).pending = s.pending :=
  ⟨rfl, rfl, rfl, rfl, rfl, rfl⟩

/-- Passing time leaves the mode, and all the Mode Controller holds but its timers, clock and lamp phases. -/
@[simp] theorem elapse_ctl (s : State) (dt : Nat) :
    (s.elapse dt).ctl.mode = s.ctl.mode ∧ (s.elapse dt).ctl.phase = s.ctl.phase ∧
    (s.elapse dt).ctl.failures = s.ctl.failures ∧ (s.elapse dt).ctl.heldMode = s.ctl.heldMode ∧
    (s.elapse dt).ctl.image = s.ctl.image ∧ (s.elapse dt).ctl.address = s.ctl.address ∧
    (s.elapse dt).ctl.haltCode = s.ctl.haltCode ∧ (s.elapse dt).ctl.keyTurned = s.ctl.keyTurned ∧
    (s.elapse dt).ctl.chainClosed = s.ctl.chainClosed ∧ (s.elapse dt).ctl.lamp = s.ctl.lamp ∧
    (s.elapse dt).ctl.clockRunning = s.ctl.clockRunning :=
  ⟨rfl, rfl, rfl, rfl, rfl, rfl, rfl, rfl, rfl, rfl, rfl⟩

end Sys2Proof.Machine
end

