-- ==== Sys2Proof/Laws/Basics.lean ====
section
/-! SUPPORT. The four-fold container, the counters and the timers. -/

namespace Sys2Proof

@[simp] theorem Quad.get_set_same {α : Type} (q : Quad α) (b : BinNo) (x : α) : (q.set b x).get b = x := by
  cases b <;> rfl

@[simp] theorem Quad.get_set_other {α : Type} (q : Quad α) (b c : BinNo) (x : α) (h : c ≠ b) :
    (q.set b x).get c = q.get c := by
  cases b <;> cases c <;> first | rfl | exact absurd rfl h

@[simp] theorem Quad.get_all {α : Type} (x : α) (b : BinNo) : (Quad.all x).get b = x := by cases b <;> rfl

@[simp] theorem Quad.get_map {α β : Type} (f : α → β) (q : Quad α) (b : BinNo) : (q.map f).get b = f (q.get b) := by
  cases b <;> rfl

theorem Quad.ext_get {α : Type} (q r : Quad α) (h : ∀ b, q.get b = r.get b) : q = r := by
  cases q; cases r
  have h1 := h .bin1; have h2 := h .bin2; have h3 := h .bin3; have h4 := h .bin4
  simp_all [Quad.get]

end Sys2Proof

namespace Sys2Proof.Machine

/-- R187: a counted event raises its counter, which holds at 65535. -/
@[simp] theorem bump_same (c : Counters) (k : Counter) : (c.bump k).get k = bump16 (c.get k) := by cases k <;> rfl

/-- R187: a counted event leaves the other counters. -/
@[simp] theorem bump_other (c : Counters) (k j : Counter) (h : j ≠ k) : (c.bump k).get j = c.get j := by
  cases k <;> cases j <;> first | rfl | exact absurd rfl h

theorem le_bump16 (n : Nat) : n ≤ bump16 n := by unfold bump16; split <;> omega

theorem bump16_le (n : Nat) (h : n ≤ Config.counterMax) : bump16 n ≤ Config.counterMax := by
  unfold bump16; split <;> omega

/-- No counter falls at a counted event. -/
theorem le_get_count (s : State) (k j : Counter) : s.counters.get j ≤ (s.count k).counters.get j := by
  by_cases h : j = k
  · subst h; simpa [State.count] using le_bump16 _
  · simp [State.count, h]

theorem le_get_countMany (s : State) (k j : Counter) (n : Nat) :
    s.counters.get j ≤ (s.countMany k n).counters.get j := by
  induction n generalizing s with
  | zero => exact Nat.le_refl _
  | succ n ih => exact Nat.le_trans (le_get_count s k j) (ih _)

/-- A timer with no more than `dt` left has run out after `dt`. -/
theorem due_elapse (r dt : Nat) (h : r ≤ dt) : Timer.due (Timer.elapse dt (some r)) = true := by
  simp [Timer.due, Timer.elapse, Nat.sub_eq_zero_of_le h]

/-- A running timer that has run out had no more than `dt` left. -/
theorem of_due_elapse (t : Timer) (dt : Nat) (h : Timer.due (Timer.elapse dt t) = true) : ∃ r, t = some r ∧ r ≤ dt := by
  cases t with
  | none => simp [Timer.due, Timer.elapse] at h
  | some r => exact ⟨r, rfl, by simpa [Timer.due, Timer.elapse, Nat.sub_eq_zero_iff_le] using h⟩

end Sys2Proof.Machine
end

