-- ==== Sys2Proof/Laws/FrameLoop.lean ====
section
/-! SUPPORT. What the operations of this group leave as it was, one lemma for each block they do not touch. -/

namespace Sys2Proof.Machine

/-- A fold of steps that each keep `f` keeps `f`. -/
theorem foldl_keeps {σ α β : Type} (f : σ → β) (g : σ → α → σ) (h : ∀ a x, f (g a x) = f a) (l : List α) (s : σ) :
    f (l.foldl g s) = f s := by
  induction l generalizing s with
  | nil => rfl
  | cons x rest ih => rw [List.foldl_cons, ih, h]

@[simp] theorem count_frame (s : State) (k : Counter) :
    (s.count k).cfg = s.cfg ∧ (s.count k).retention = s.retention ∧ (s.count k).pos = s.pos ∧
    (s.count k).gate = s.gate ∧ (s.count k).classifier = s.classifier ∧ (s.count k).trk = s.trk ∧
    (s.count k).bins = s.bins ∧ (s.count k).ej = s.ej ∧ (s.count k).port = s.port ∧ (s.count k).ltu = s.ltu ∧
    (s.count k).ctl = s.ctl ∧ (s.count k).pins = s.pins ∧ (s.count k).pending = s.pending := by
  unfold State.count; try dsimp only
  (repeat' split) <;> simp

@[simp] theorem countMany_frame (s : State) (k : Counter) (n : Nat) :
    (s.countMany k n).cfg = s.cfg ∧ (s.countMany k n).retention = s.retention ∧ (s.countMany k n).pos = s.pos ∧
    (s.countMany k n).gate = s.gate ∧ (s.countMany k n).classifier = s.classifier ∧ (s.countMany k n).trk = s.trk ∧
    (s.countMany k n).bins = s.bins ∧ (s.countMany k n).ej = s.ej ∧ (s.countMany k n).port = s.port ∧
    (s.countMany k n).ltu = s.ltu ∧ (s.countMany k n).ctl = s.ctl ∧ (s.countMany k n).pins = s.pins ∧
    (s.countMany k n).pending = s.pending := by
  induction n generalizing s with
  | zero => simp [State.countMany]
  | succ n ih => simp [State.countMany, ih]

@[simp] theorem beginSend_frame (s : State) (f : Frame) :
    (s.beginSend f).cfg = s.cfg ∧ (s.beginSend f).retention = s.retention ∧ (s.beginSend f).pos = s.pos ∧
    (s.beginSend f).gate = s.gate ∧ (s.beginSend f).classifier = s.classifier ∧ (s.beginSend f).trk = s.trk ∧
    (s.beginSend f).bins = s.bins ∧ (s.beginSend f).ej = s.ej ∧ (s.beginSend f).ltu = s.ltu ∧
    (s.beginSend f).ctl = s.ctl ∧ (s.beginSend f).pins = s.pins ∧ (s.beginSend f).counters = s.counters ∧
    (s.beginSend f).pending = s.pending := by
  unfold State.beginSend; try dsimp only
  (repeat' split) <;> simp

@[simp] theorem askArbiter_frame (s : State) :
    (s.askArbiter).cfg = s.cfg ∧ (s.askArbiter).retention = s.retention ∧ (s.askArbiter).pos = s.pos ∧
    (s.askArbiter).gate = s.gate ∧ (s.askArbiter).classifier = s.classifier ∧ (s.askArbiter).trk = s.trk ∧
    (s.askArbiter).bins = s.bins ∧ (s.askArbiter).ej = s.ej ∧ (s.askArbiter).ctl = s.ctl ∧
    (s.askArbiter).pins = s.pins ∧ (s.askArbiter).counters = s.counters ∧ (s.askArbiter).pending = s.pending := by
  unfold State.askArbiter; try dsimp only
  (repeat' split) <;> simp

@[simp] theorem enqueueOwn_frame (s : State) (f : Frame) :
    (s.enqueueOwn f).cfg = s.cfg ∧ (s.enqueueOwn f).retention = s.retention ∧ (s.enqueueOwn f).pos = s.pos ∧
    (s.enqueueOwn f).gate = s.gate ∧ (s.enqueueOwn f).classifier = s.classifier ∧ (s.enqueueOwn f).trk = s.trk ∧
    (s.enqueueOwn f).bins = s.bins ∧ (s.enqueueOwn f).ej = s.ej ∧ (s.enqueueOwn f).ctl = s.ctl ∧
    (s.enqueueOwn f).pins = s.pins ∧ (s.enqueueOwn f).pending = s.pending := by
  unfold State.enqueueOwn; try dsimp only
  (repeat' split) <;> simp

@[simp] theorem repeatFrame_frame (s : State) (f : Frame) :
    (s.repeatFrame f).cfg = s.cfg ∧ (s.repeatFrame f).retention = s.retention ∧ (s.repeatFrame f).pos = s.pos ∧
    (s.repeatFrame f).gate = s.gate ∧ (s.repeatFrame f).classifier = s.classifier ∧ (s.repeatFrame f).trk = s.trk ∧
    (s.repeatFrame f).bins = s.bins ∧ (s.repeatFrame f).ej = s.ej ∧ (s.repeatFrame f).ctl = s.ctl ∧
    (s.repeatFrame f).pins = s.pins ∧ (s.repeatFrame f).pending = s.pending := by
  unfold State.repeatFrame; try dsimp only
  (repeat' split) <;> simp

@[simp] theorem askBinstate_frame (s : State) :
    (s.askBinstate).cfg = s.cfg ∧ (s.askBinstate).retention = s.retention ∧ (s.askBinstate).pos = s.pos ∧
    (s.askBinstate).gate = s.gate ∧ (s.askBinstate).classifier = s.classifier ∧ (s.askBinstate).trk = s.trk ∧
    (s.askBinstate).ej = s.ej ∧ (s.askBinstate).port = s.port ∧ (s.askBinstate).ltu = s.ltu ∧
    (s.askBinstate).ctl = s.ctl ∧ (s.askBinstate).pins = s.pins ∧ (s.askBinstate).counters = s.counters ∧
    (s.askBinstate).pending = s.pending := by
  unfold State.askBinstate; try dsimp only
  (repeat' split) <;> simp

@[simp] theorem requestBinstate_frame (s : State) :
    (s.requestBinstate).cfg = s.cfg ∧ (s.requestBinstate).retention = s.retention ∧ (s.requestBinstate).pos = s.pos ∧
    (s.requestBinstate).gate = s.gate ∧ (s.requestBinstate).classifier = s.classifier ∧
    (s.requestBinstate).trk = s.trk ∧ (s.requestBinstate).ej = s.ej ∧ (s.requestBinstate).ctl = s.ctl ∧
    (s.requestBinstate).pins = s.pins ∧ (s.requestBinstate).pending = s.pending := by
  unfold State.requestBinstate; try dsimp only
  (repeat' split) <;> simp

@[simp] theorem toLink_frame (s : State) (l : LinkState) :
    (s.toLink l).cfg = s.cfg ∧ (s.toLink l).retention = s.retention ∧ (s.toLink l).pos = s.pos ∧
    (s.toLink l).gate = s.gate ∧ (s.toLink l).classifier = s.classifier ∧ (s.toLink l).trk = s.trk ∧
    (s.toLink l).bins = s.bins ∧ (s.toLink l).ej = s.ej ∧ (s.toLink l).ltu = s.ltu ∧ (s.toLink l).ctl = s.ctl ∧
    (s.toLink l).pins = s.pins ∧ (s.toLink l).counters = s.counters ∧ (s.toLink l).pending = s.pending := by
  unfold State.toLink; try dsimp only
  (repeat' split) <;> simp

@[simp] theorem requestJoiningRoll_frame (s : State) :
    (s.requestJoiningRoll).cfg = s.cfg ∧ (s.requestJoiningRoll).retention = s.retention ∧
    (s.requestJoiningRoll).pos = s.pos ∧ (s.requestJoiningRoll).gate = s.gate ∧
    (s.requestJoiningRoll).classifier = s.classifier ∧ (s.requestJoiningRoll).trk = s.trk ∧
    (s.requestJoiningRoll).bins = s.bins ∧ (s.requestJoiningRoll).ej = s.ej ∧ (s.requestJoiningRoll).ctl = s.ctl ∧
    (s.requestJoiningRoll).pins = s.pins ∧ (s.requestJoiningRoll).pending = s.pending := by
  unfold State.requestJoiningRoll; try dsimp only
  (repeat' split) <;> simp

@[simp] theorem join_frame (s : State) :
    (s.join).cfg = s.cfg ∧ (s.join).retention = s.retention ∧ (s.join).pos = s.pos ∧ (s.join).gate = s.gate ∧
    (s.join).classifier = s.classifier ∧ (s.join).trk = s.trk ∧ (s.join).bins = s.bins ∧ (s.join).ej = s.ej ∧
    (s.join).ctl = s.ctl ∧ (s.join).pins = s.pins ∧ (s.join).pending = s.pending := by
  unfold State.join; try dsimp only
  (repeat' split) <;> simp

@[simp] theorem sever_frame (s : State) (k : Bool) :
    (s.sever k).cfg = s.cfg ∧ (s.sever k).retention = s.retention ∧ (s.sever k).pos = s.pos ∧
    (s.sever k).gate = s.gate ∧ (s.sever k).classifier = s.classifier ∧ (s.sever k).trk = s.trk ∧
    (s.sever k).bins = s.bins ∧ (s.sever k).ej = s.ej ∧ (s.sever k).ltu = s.ltu ∧ (s.sever k).ctl = s.ctl ∧
    (s.sever k).pins = s.pins ∧ (s.sever k).counters = s.counters ∧ (s.sever k).pending = s.pending := by
  unfold State.sever; try dsimp only
  (repeat' split) <;> simp

@[simp] theorem ownRollReturned_frame (s : State) :
    (s.ownRollReturned).cfg = s.cfg ∧ (s.ownRollReturned).retention = s.retention ∧ (s.ownRollReturned).pos = s.pos ∧
    (s.ownRollReturned).gate = s.gate ∧ (s.ownRollReturned).classifier = s.classifier ∧
    (s.ownRollReturned).trk = s.trk ∧ (s.ownRollReturned).bins = s.bins ∧ (s.ownRollReturned).ej = s.ej ∧
    (s.ownRollReturned).ltu = s.ltu ∧ (s.ownRollReturned).ctl = s.ctl ∧ (s.ownRollReturned).pins = s.pins ∧
    (s.ownRollReturned).counters = s.counters ∧ (s.ownRollReturned).pending = s.pending := by
  unfold State.ownRollReturned; try dsimp only
  (repeat' split) <;> simp

@[simp] theorem haltLink_frame (s : State) :
    (s.haltLink).cfg = s.cfg ∧ (s.haltLink).retention = s.retention ∧ (s.haltLink).pos = s.pos ∧
    (s.haltLink).gate = s.gate ∧ (s.haltLink).classifier = s.classifier ∧ (s.haltLink).trk = s.trk ∧
    (s.haltLink).bins = s.bins ∧ (s.haltLink).ej = s.ej ∧ (s.haltLink).ctl = s.ctl ∧ (s.haltLink).pins = s.pins ∧
    (s.haltLink).counters = s.counters ∧ (s.haltLink).pending = s.pending := by
  unfold State.haltLink; try dsimp only
  (repeat' split) <;> simp

end Sys2Proof.Machine
end

