-- ==== Sys2Proof/Laws/FrameBins.lean ====
section
/-! SUPPORT. What the operations of this group leave as it was, one lemma for each block they do not touch. -/

namespace Sys2Proof.Machine

@[simp] theorem setBin_frame (s : State) (b : BinNo) (r : BinRecord) :
    (s.setBin b r).cfg = s.cfg ∧ (s.setBin b r).pos = s.pos ∧ (s.setBin b r).gate = s.gate ∧
    (s.setBin b r).classifier = s.classifier ∧ (s.setBin b r).trk = s.trk ∧ (s.setBin b r).ej = s.ej ∧
    (s.setBin b r).port = s.port ∧ (s.setBin b r).ltu = s.ltu ∧ (s.setBin b r).ctl = s.ctl ∧
    (s.setBin b r).pins = s.pins ∧ (s.setBin b r).counters = s.counters ∧ (s.setBin b r).pending = s.pending := by
  unfold State.setBin; try dsimp only
  (repeat' split) <;> simp

@[simp] theorem reserve_frame (s : State) (b : BinNo) :
    (s.reserve b).cfg = s.cfg ∧ (s.reserve b).pos = s.pos ∧ (s.reserve b).gate = s.gate ∧
    (s.reserve b).classifier = s.classifier ∧ (s.reserve b).trk = s.trk ∧ (s.reserve b).ej = s.ej ∧
    (s.reserve b).port = s.port ∧ (s.reserve b).ltu = s.ltu ∧ (s.reserve b).ctl = s.ctl ∧
    (s.reserve b).pins = s.pins ∧ (s.reserve b).counters = s.counters ∧ (s.reserve b).pending = s.pending := by
  unfold State.reserve; try dsimp only
  (repeat' split) <;> simp

@[simp] theorem unreserve_frame (s : State) (b : BinNo) :
    (s.unreserve b).cfg = s.cfg ∧ (s.unreserve b).pos = s.pos ∧ (s.unreserve b).gate = s.gate ∧
    (s.unreserve b).classifier = s.classifier ∧ (s.unreserve b).trk = s.trk ∧ (s.unreserve b).ej = s.ej ∧
    (s.unreserve b).port = s.port ∧ (s.unreserve b).ltu = s.ltu ∧ (s.unreserve b).ctl = s.ctl ∧
    (s.unreserve b).pins = s.pins ∧ (s.unreserve b).counters = s.counters ∧ (s.unreserve b).pending = s.pending := by
  unfold State.unreserve; try dsimp only
  (repeat' split) <;> simp

@[simp] theorem binVerifyClear_frame (s : State) (b : BinNo) :
    (s.binVerifyClear b).cfg = s.cfg ∧ (s.binVerifyClear b).pos = s.pos ∧ (s.binVerifyClear b).gate = s.gate ∧
    (s.binVerifyClear b).classifier = s.classifier ∧ (s.binVerifyClear b).trk = s.trk ∧
    (s.binVerifyClear b).ej = s.ej ∧ (s.binVerifyClear b).port = s.port ∧ (s.binVerifyClear b).ltu = s.ltu ∧
    (s.binVerifyClear b).ctl = s.ctl ∧ (s.binVerifyClear b).pins = s.pins ∧
    (s.binVerifyClear b).counters = s.counters ∧ (s.binVerifyClear b).pending = s.pending := by
  unfold State.binVerifyClear; try dsimp only
  (repeat' split) <;> simp

@[simp] theorem showFault_frame (s : State) (b : BinNo) (on : Bool) :
    (s.showFault b on).cfg = s.cfg ∧ (s.showFault b on).pos = s.pos ∧ (s.showFault b on).gate = s.gate ∧
    (s.showFault b on).classifier = s.classifier ∧ (s.showFault b on).trk = s.trk ∧ (s.showFault b on).ej = s.ej ∧
    (s.showFault b on).port = s.port ∧ (s.showFault b on).ltu = s.ltu ∧ (s.showFault b on).ctl = s.ctl ∧
    (s.showFault b on).pins = s.pins ∧ (s.showFault b on).counters = s.counters ∧
    (s.showFault b on).pending = s.pending := by
  unfold State.showFault; try dsimp only
  (repeat' split) <;> simp

@[simp] theorem setBetween_frame (s : State) (l : List (List BinEvent)) :
    (s.setBetween l).cfg = s.cfg ∧ (s.setBetween l).retention = s.retention ∧ (s.setBetween l).pos = s.pos ∧
    (s.setBetween l).gate = s.gate ∧ (s.setBetween l).classifier = s.classifier ∧ (s.setBetween l).trk = s.trk ∧
    (s.setBetween l).ej = s.ej ∧ (s.setBetween l).port = s.port ∧ (s.setBetween l).ltu = s.ltu ∧
    (s.setBetween l).ctl = s.ctl ∧ (s.setBetween l).pins = s.pins ∧ (s.setBetween l).counters = s.counters ∧
    (s.setBetween l).pending = s.pending :=
  ⟨rfl, rfl, rfl, rfl, rfl, rfl, rfl, rfl, rfl, rfl, rfl, rfl, rfl⟩

/-- The field is the model's own: no other part of the Bin Unit changes. -/
@[simp] theorem setBetween_bins (s : State) (l : List (List BinEvent)) :
    (s.setBetween l).bins = { s.bins with between := l } := rfl

@[simp] theorem takeSensor_frame (s : State) (b : BinNo) (k : BinSensor) (l : Bool) :
    (s.takeSensor b k l).cfg = s.cfg ∧ (s.takeSensor b k l).retention = s.retention ∧
    (s.takeSensor b k l).pos = s.pos ∧ (s.takeSensor b k l).gate = s.gate ∧
    (s.takeSensor b k l).classifier = s.classifier ∧ (s.takeSensor b k l).trk = s.trk ∧
    (s.takeSensor b k l).ej = s.ej ∧ (s.takeSensor b k l).port = s.port ∧ (s.takeSensor b k l).ltu = s.ltu ∧
    (s.takeSensor b k l).ctl = s.ctl ∧ (s.takeSensor b k l).pins = s.pins ∧
    (s.takeSensor b k l).counters = s.counters ∧ (s.takeSensor b k l).pending = s.pending := by
  unfold State.takeSensor; try dsimp only
  (repeat' split) <;> simp

@[simp] theorem setSlot_frame (s : State) (b : BinNo) (x : SnapshotSlot) :
    (s.setSlot b x).cfg = s.cfg ∧ (s.setSlot b x).retention = s.retention ∧ (s.setSlot b x).pos = s.pos ∧
    (s.setSlot b x).gate = s.gate ∧ (s.setSlot b x).classifier = s.classifier ∧ (s.setSlot b x).trk = s.trk ∧
    (s.setSlot b x).ej = s.ej ∧ (s.setSlot b x).port = s.port ∧ (s.setSlot b x).ltu = s.ltu ∧
    (s.setSlot b x).ctl = s.ctl ∧ (s.setSlot b x).pins = s.pins ∧ (s.setSlot b x).counters = s.counters ∧
    (s.setSlot b x).pending = s.pending := by
  unfold State.setSlot; try dsimp only
  (repeat' split) <;> simp

@[simp] theorem showHeld_frame (s : State) (b : BinNo) :
    (s.showHeld b).cfg = s.cfg ∧ (s.showHeld b).pos = s.pos ∧ (s.showHeld b).gate = s.gate ∧
    (s.showHeld b).classifier = s.classifier ∧ (s.showHeld b).trk = s.trk ∧ (s.showHeld b).ej = s.ej ∧
    (s.showHeld b).port = s.port ∧ (s.showHeld b).ltu = s.ltu ∧ (s.showHeld b).ctl = s.ctl ∧
    (s.showHeld b).pins = s.pins ∧ (s.showHeld b).counters = s.counters ∧ (s.showHeld b).pending = s.pending := by
  unfold State.showHeld; try dsimp only
  (repeat' split) <;> simp

@[simp] theorem enterVisit_frame (s : State) :
    (s.enterVisit).cfg = s.cfg ∧ (s.enterVisit).pos = s.pos ∧ (s.enterVisit).gate = s.gate ∧
    (s.enterVisit).classifier = s.classifier ∧ (s.enterVisit).trk = s.trk ∧ (s.enterVisit).ej = s.ej ∧
    (s.enterVisit).port = s.port ∧ (s.enterVisit).ltu = s.ltu ∧ (s.enterVisit).ctl = s.ctl ∧
    (s.enterVisit).pins = s.pins ∧ (s.enterVisit).counters = s.counters ∧ (s.enterVisit).pending = s.pending := by
  unfold State.enterVisit; try dsimp only
  (repeat' split) <;> simp [foldl_keeps State.cfg, foldl_keeps State.pos, foldl_keeps State.gate, foldl_keeps State.classifier, foldl_keeps State.trk, foldl_keeps State.ej, foldl_keeps State.port, foldl_keeps State.ltu, foldl_keeps State.ctl, foldl_keeps State.pins, foldl_keeps State.counters, foldl_keeps State.pending]

@[simp] theorem leaveVisit_frame (s : State) :
    (s.leaveVisit).cfg = s.cfg ∧ (s.leaveVisit).pos = s.pos ∧ (s.leaveVisit).gate = s.gate ∧
    (s.leaveVisit).classifier = s.classifier ∧ (s.leaveVisit).trk = s.trk ∧ (s.leaveVisit).ej = s.ej ∧
    (s.leaveVisit).port = s.port ∧ (s.leaveVisit).ltu = s.ltu ∧ (s.leaveVisit).ctl = s.ctl ∧
    (s.leaveVisit).pins = s.pins ∧ (s.leaveVisit).counters = s.counters ∧ (s.leaveVisit).pending = s.pending := by
  unfold State.leaveVisit; (repeat' split) <;> simp [foldl_keeps State.cfg, foldl_keeps State.pos, foldl_keeps State.gate, foldl_keeps State.classifier, foldl_keeps State.trk, foldl_keeps State.ej, foldl_keeps State.port, foldl_keeps State.ltu, foldl_keeps State.ctl, foldl_keeps State.pins, foldl_keeps State.counters, foldl_keeps State.pending]

@[simp] theorem startBin_frame (s : State) (b : BinNo) :
    (s.startBin b).cfg = s.cfg ∧ (s.startBin b).pos = s.pos ∧ (s.startBin b).gate = s.gate ∧
    (s.startBin b).classifier = s.classifier ∧ (s.startBin b).trk = s.trk ∧ (s.startBin b).ej = s.ej ∧
    (s.startBin b).port = s.port ∧ (s.startBin b).ltu = s.ltu ∧ (s.startBin b).ctl = s.ctl ∧
    (s.startBin b).pins = s.pins ∧ (s.startBin b).counters = s.counters ∧ (s.startBin b).pending = s.pending := by
  unfold State.startBin; try dsimp only
  (repeat' split) <;> simp

@[simp] theorem startBins_frame (s : State) :
    (s.startBins).cfg = s.cfg ∧ (s.startBins).pos = s.pos ∧ (s.startBins).gate = s.gate ∧
    (s.startBins).classifier = s.classifier ∧ (s.startBins).trk = s.trk ∧ (s.startBins).ej = s.ej ∧
    (s.startBins).port = s.port ∧ (s.startBins).ltu = s.ltu ∧ (s.startBins).ctl = s.ctl ∧
    (s.startBins).pins = s.pins ∧ (s.startBins).counters = s.counters ∧ (s.startBins).pending = s.pending := by
  unfold State.startBins; try dsimp only
  (repeat' split) <;> simp [foldl_keeps State.cfg, foldl_keeps State.pos, foldl_keeps State.gate, foldl_keeps State.classifier, foldl_keeps State.trk, foldl_keeps State.ej, foldl_keeps State.port, foldl_keeps State.ltu, foldl_keeps State.ctl, foldl_keeps State.pins, foldl_keeps State.counters, foldl_keeps State.pending]

@[simp] theorem forgetBoard_frame (s : State) (p : Nat) :
    (s.forgetBoard p).cfg = s.cfg ∧ (s.forgetBoard p).retention = s.retention ∧ (s.forgetBoard p).pos = s.pos ∧
    (s.forgetBoard p).gate = s.gate ∧ (s.forgetBoard p).classifier = s.classifier ∧ (s.forgetBoard p).trk = s.trk ∧
    (s.forgetBoard p).ej = s.ej ∧ (s.forgetBoard p).port = s.port ∧ (s.forgetBoard p).ltu = s.ltu ∧
    (s.forgetBoard p).ctl = s.ctl ∧ (s.forgetBoard p).pins = s.pins ∧ (s.forgetBoard p).counters = s.counters ∧
    (s.forgetBoard p).pending = s.pending := by
  unfold State.forgetBoard; try dsimp only
  (repeat' split) <;> simp

@[simp] theorem takeBinstate_frame (s : State) (o : Nat) (p : List Byte) :
    (s.takeBinstate o p).cfg = s.cfg ∧ (s.takeBinstate o p).retention = s.retention ∧
    (s.takeBinstate o p).pos = s.pos ∧ (s.takeBinstate o p).gate = s.gate ∧
    (s.takeBinstate o p).classifier = s.classifier ∧ (s.takeBinstate o p).trk = s.trk ∧
    (s.takeBinstate o p).ej = s.ej ∧ (s.takeBinstate o p).port = s.port ∧ (s.takeBinstate o p).ltu = s.ltu ∧
    (s.takeBinstate o p).ctl = s.ctl ∧ (s.takeBinstate o p).pins = s.pins ∧
    (s.takeBinstate o p).counters = s.counters ∧ (s.takeBinstate o p).pending = s.pending := by
  unfold State.takeBinstate; try dsimp only
  (repeat' split) <;> simp

end Sys2Proof.Machine
end

