-- ==== Sys2Proof/Laws/FrameItems.lean ====
section
/-! SUPPORT. What the operations of this group leave as it was, one lemma for each block they do not touch. -/

namespace Sys2Proof.Machine

@[simp] theorem setTransit_frame (s : State) (l : List TransitEntry) :
    (s.setTransit l).cfg = s.cfg ∧ (s.setTransit l).retention = s.retention ∧ (s.setTransit l).pos = s.pos ∧
    (s.setTransit l).gate = s.gate ∧ (s.setTransit l).classifier = s.classifier ∧ (s.setTransit l).bins = s.bins ∧
    (s.setTransit l).ej = s.ej ∧ (s.setTransit l).port = s.port ∧ (s.setTransit l).ltu = s.ltu ∧
    (s.setTransit l).ctl = s.ctl ∧ (s.setTransit l).pins = s.pins ∧ (s.setTransit l).counters = s.counters ∧
    (s.setTransit l).pending = s.pending := by
  unfold State.setTransit; try dsimp only
  (repeat' split) <;> simp

@[simp] theorem updateEntry_frame (s : State) (n : Nat) (f : TransitEntry → TransitEntry) :
    (s.updateEntry n f).cfg = s.cfg ∧ (s.updateEntry n f).retention = s.retention ∧ (s.updateEntry n f).pos = s.pos ∧
    (s.updateEntry n f).gate = s.gate ∧ (s.updateEntry n f).classifier = s.classifier ∧
    (s.updateEntry n f).bins = s.bins ∧ (s.updateEntry n f).ej = s.ej ∧ (s.updateEntry n f).port = s.port ∧
    (s.updateEntry n f).ltu = s.ltu ∧ (s.updateEntry n f).ctl = s.ctl ∧ (s.updateEntry n f).pins = s.pins ∧
    (s.updateEntry n f).counters = s.counters ∧ (s.updateEntry n f).pending = s.pending := by
  unfold State.updateEntry; try dsimp only
  (repeat' split) <;> simp

@[simp] theorem removeEntry_frame (s : State) (n : Nat) :
    (s.removeEntry n).cfg = s.cfg ∧ (s.removeEntry n).retention = s.retention ∧ (s.removeEntry n).pos = s.pos ∧
    (s.removeEntry n).gate = s.gate ∧ (s.removeEntry n).classifier = s.classifier ∧ (s.removeEntry n).bins = s.bins ∧
    (s.removeEntry n).ej = s.ej ∧ (s.removeEntry n).port = s.port ∧ (s.removeEntry n).ltu = s.ltu ∧
    (s.removeEntry n).ctl = s.ctl ∧ (s.removeEntry n).pins = s.pins ∧ (s.removeEntry n).counters = s.counters ∧
    (s.removeEntry n).pending = s.pending := by
  unfold State.removeEntry; try dsimp only
  (repeat' split) <;> simp

@[simp] theorem sendRelease_frame (s : State) (t : Ticket) :
    (s.sendRelease t).cfg = s.cfg ∧ (s.sendRelease t).retention = s.retention ∧ (s.sendRelease t).pos = s.pos ∧
    (s.sendRelease t).gate = s.gate ∧ (s.sendRelease t).classifier = s.classifier ∧ (s.sendRelease t).bins = s.bins ∧
    (s.sendRelease t).ej = s.ej ∧ (s.sendRelease t).ctl = s.ctl ∧ (s.sendRelease t).pins = s.pins ∧
    (s.sendRelease t).pending = s.pending := by
  unfold State.sendRelease; try dsimp only
  (repeat' split) <;> simp

@[simp] theorem decideExit_frame (s : State) (n : Nat) :
    (s.decideExit n).cfg = s.cfg ∧ (s.decideExit n).retention = s.retention ∧ (s.decideExit n).pos = s.pos ∧
    (s.decideExit n).gate = s.gate ∧ (s.decideExit n).classifier = s.classifier ∧ (s.decideExit n).bins = s.bins ∧
    (s.decideExit n).ej = s.ej ∧ (s.decideExit n).ctl = s.ctl ∧ (s.decideExit n).pins = s.pins ∧
    (s.decideExit n).pending = s.pending := by
  unfold State.decideExit; try dsimp only
  (repeat' split) <;> simp

@[simp] theorem requestFired_frame (s : State) (n : Nat) :
    (s.requestFired n).cfg = s.cfg ∧ (s.requestFired n).retention = s.retention ∧ (s.requestFired n).pos = s.pos ∧
    (s.requestFired n).gate = s.gate ∧ (s.requestFired n).classifier = s.classifier ∧
    (s.requestFired n).bins = s.bins ∧ (s.requestFired n).ej = s.ej ∧ (s.requestFired n).port = s.port ∧
    (s.requestFired n).ltu = s.ltu ∧ (s.requestFired n).ctl = s.ctl ∧ (s.requestFired n).pins = s.pins ∧
    (s.requestFired n).counters = s.counters ∧ (s.requestFired n).pending = s.pending := by
  unfold State.requestFired; try dsimp only
  (repeat' split) <;> simp

@[simp] theorem requestPass_frame (s : State) (n : Nat) (r : PassReason) :
    (s.requestPass n r).cfg = s.cfg ∧ (s.requestPass n r).retention = s.retention ∧ (s.requestPass n r).pos = s.pos ∧
    (s.requestPass n r).gate = s.gate ∧ (s.requestPass n r).classifier = s.classifier ∧
    (s.requestPass n r).bins = s.bins ∧ (s.requestPass n r).ej = s.ej ∧ (s.requestPass n r).ctl = s.ctl ∧
    (s.requestPass n r).pins = s.pins ∧ (s.requestPass n r).pending = s.pending := by
  unfold State.requestPass; try dsimp only
  (repeat' split) <;> simp

@[simp] theorem requestDetach_frame (s : State) (n : Nat) :
    (s.requestDetach n).cfg = s.cfg ∧ (s.requestDetach n).retention = s.retention ∧ (s.requestDetach n).pos = s.pos ∧
    (s.requestDetach n).gate = s.gate ∧ (s.requestDetach n).classifier = s.classifier ∧
    (s.requestDetach n).bins = s.bins ∧ (s.requestDetach n).ej = s.ej ∧ (s.requestDetach n).port = s.port ∧
    (s.requestDetach n).ltu = s.ltu ∧ (s.requestDetach n).ctl = s.ctl ∧ (s.requestDetach n).pins = s.pins ∧
    (s.requestDetach n).counters = s.counters ∧ (s.requestDetach n).pending = s.pending := by
  unfold State.requestDetach; try dsimp only
  (repeat' split) <;> simp

@[simp] theorem requestMissed_frame (s : State) (n : Nat) :
    (s.requestMissed n).cfg = s.cfg ∧ (s.requestMissed n).retention = s.retention ∧ (s.requestMissed n).pos = s.pos ∧
    (s.requestMissed n).gate = s.gate ∧ (s.requestMissed n).classifier = s.classifier ∧
    (s.requestMissed n).bins = s.bins ∧ (s.requestMissed n).ej = s.ej ∧ (s.requestMissed n).ctl = s.ctl ∧
    (s.requestMissed n).pins = s.pins ∧ (s.requestMissed n).pending = s.pending := by
  unfold State.requestMissed; try dsimp only
  (repeat' split) <;> simp

@[simp] theorem requestEjected_frame (s : State) (n : Nat) :
    (s.requestEjected n).cfg = s.cfg ∧ (s.requestEjected n).retention = s.retention ∧
    (s.requestEjected n).pos = s.pos ∧ (s.requestEjected n).gate = s.gate ∧
    (s.requestEjected n).classifier = s.classifier ∧ (s.requestEjected n).bins = s.bins ∧
    (s.requestEjected n).ej = s.ej ∧ (s.requestEjected n).port = s.port ∧ (s.requestEjected n).ltu = s.ltu ∧
    (s.requestEjected n).ctl = s.ctl ∧ (s.requestEjected n).pins = s.pins ∧
    (s.requestEjected n).counters = s.counters ∧ (s.requestEjected n).pending = s.pending := by
  unfold State.requestEjected; try dsimp only
  (repeat' split) <;> simp

@[simp] theorem insertTransit_frame (s : State) (e : TransitEntry) :
    (s.insertTransit e).cfg = s.cfg ∧ (s.insertTransit e).retention = s.retention ∧ (s.insertTransit e).pos = s.pos ∧
    (s.insertTransit e).gate = s.gate ∧ (s.insertTransit e).classifier = s.classifier ∧
    (s.insertTransit e).bins = s.bins ∧ (s.insertTransit e).ej = s.ej ∧ (s.insertTransit e).port = s.port ∧
    (s.insertTransit e).ltu = s.ltu ∧ (s.insertTransit e).ctl = s.ctl ∧ (s.insertTransit e).pins = s.pins ∧
    (s.insertTransit e).counters = s.counters ∧ (s.insertTransit e).pending = s.pending := by
  unfold State.insertTransit; try dsimp only
  (repeat' split) <;> simp

@[simp] theorem exitLine_frame (s : State) (ev : StepEvent) :
    (s.exitLine ev).cfg = s.cfg ∧ (s.exitLine ev).retention = s.retention ∧ (s.exitLine ev).pos = s.pos ∧
    (s.exitLine ev).gate = s.gate ∧ (s.exitLine ev).classifier = s.classifier ∧ (s.exitLine ev).bins = s.bins ∧
    (s.exitLine ev).ej = s.ej ∧ (s.exitLine ev).ctl = s.ctl ∧ (s.exitLine ev).pins = s.pins ∧
    (s.exitLine ev).pending = s.pending := by
  unfold State.exitLine; try dsimp only
  (repeat' split) <;> simp [foldl_keeps State.cfg, foldl_keeps State.retention, foldl_keeps State.pos, foldl_keeps State.gate, foldl_keeps State.classifier, foldl_keeps State.bins, foldl_keeps State.ej, foldl_keeps State.ctl, foldl_keeps State.pins, foldl_keeps State.pending]

@[simp] theorem setEjector_frame (s : State) (b : BinNo) (e : Ejector) :
    (s.setEjector b e).cfg = s.cfg ∧ (s.setEjector b e).retention = s.retention ∧ (s.setEjector b e).pos = s.pos ∧
    (s.setEjector b e).gate = s.gate ∧ (s.setEjector b e).classifier = s.classifier ∧ (s.setEjector b e).trk = s.trk ∧
    (s.setEjector b e).bins = s.bins ∧ (s.setEjector b e).port = s.port ∧ (s.setEjector b e).ltu = s.ltu ∧
    (s.setEjector b e).ctl = s.ctl ∧ (s.setEjector b e).pins = s.pins ∧ (s.setEjector b e).counters = s.counters ∧
    (s.setEjector b e).pending = s.pending := by
  unfold State.setEjector; try dsimp only
  (repeat' split) <;> simp

@[simp] theorem cancelItem_frame (s : State) (b : BinNo) (r : PassReason) (it : SchedItem) :
    (s.cancelItem b r it).cfg = s.cfg ∧ (s.cancelItem b r it).pos = s.pos ∧ (s.cancelItem b r it).gate = s.gate ∧
    (s.cancelItem b r it).classifier = s.classifier ∧ (s.cancelItem b r it).ej = s.ej ∧
    (s.cancelItem b r it).ctl = s.ctl ∧ (s.cancelItem b r it).pins = s.pins ∧
    (s.cancelItem b r it).pending = s.pending := by
  unfold State.cancelItem; try dsimp only
  (repeat' split) <;> simp

@[simp] theorem cancelSchedule_frame (s : State) (b : BinNo) (r : PassReason) :
    (s.cancelSchedule b r).cfg = s.cfg ∧ (s.cancelSchedule b r).pos = s.pos ∧ (s.cancelSchedule b r).gate = s.gate ∧
    (s.cancelSchedule b r).classifier = s.classifier ∧ (s.cancelSchedule b r).ctl = s.ctl ∧
    (s.cancelSchedule b r).pins = s.pins ∧ (s.cancelSchedule b r).pending = s.pending := by
  unfold State.cancelSchedule; try dsimp only
  (repeat' split) <;> simp [foldl_keeps State.cfg, foldl_keeps State.pos, foldl_keeps State.gate, foldl_keeps State.classifier, foldl_keeps State.ctl, foldl_keeps State.pins, foldl_keeps State.pending]

@[simp] theorem enterFault_frame (s : State) (b : BinNo) :
    (s.enterFault b).cfg = s.cfg ∧ (s.enterFault b).pos = s.pos ∧ (s.enterFault b).gate = s.gate ∧
    (s.enterFault b).classifier = s.classifier ∧ (s.enterFault b).ctl = s.ctl ∧ (s.enterFault b).pins = s.pins ∧
    (s.enterFault b).pending = s.pending := by
  unfold State.enterFault; try dsimp only
  (repeat' split) <;> simp

@[simp] theorem cut_frame (s : State) (b : BinNo) :
    (s.cut b).cfg = s.cfg ∧ (s.cut b).retention = s.retention ∧ (s.cut b).pos = s.pos ∧ (s.cut b).gate = s.gate ∧
    (s.cut b).classifier = s.classifier ∧ (s.cut b).trk = s.trk ∧ (s.cut b).bins = s.bins ∧ (s.cut b).port = s.port ∧
    (s.cut b).ltu = s.ltu ∧ (s.cut b).ctl = s.ctl ∧ (s.cut b).pins = s.pins ∧ (s.cut b).pending = s.pending := by
  unfold State.cut; try dsimp only
  (repeat' split) <;> simp

@[simp] theorem cutAll_frame (s : State) :
    (s.cutAll).cfg = s.cfg ∧ (s.cutAll).retention = s.retention ∧ (s.cutAll).pos = s.pos ∧ (s.cutAll).gate = s.gate ∧
    (s.cutAll).classifier = s.classifier ∧ (s.cutAll).trk = s.trk ∧ (s.cutAll).bins = s.bins ∧
    (s.cutAll).port = s.port ∧ (s.cutAll).ltu = s.ltu ∧ (s.cutAll).ctl = s.ctl ∧ (s.cutAll).pins = s.pins ∧
    (s.cutAll).pending = s.pending := by
  unfold State.cutAll; try dsimp only
  (repeat' split) <;> simp [foldl_keeps State.cfg, foldl_keeps State.retention, foldl_keeps State.pos, foldl_keeps State.gate, foldl_keeps State.classifier, foldl_keeps State.trk, foldl_keeps State.bins, foldl_keeps State.port, foldl_keeps State.ltu, foldl_keeps State.ctl, foldl_keeps State.pins, foldl_keeps State.pending]

@[simp] theorem cancelAll_frame (s : State) (r : PassReason) :
    (s.cancelAll r).cfg = s.cfg ∧ (s.cancelAll r).pos = s.pos ∧ (s.cancelAll r).gate = s.gate ∧
    (s.cancelAll r).classifier = s.classifier ∧ (s.cancelAll r).ctl = s.ctl ∧ (s.cancelAll r).pins = s.pins ∧
    (s.cancelAll r).pending = s.pending := by
  unfold State.cancelAll; try dsimp only
  (repeat' split) <;> simp [foldl_keeps State.cfg, foldl_keeps State.pos, foldl_keeps State.gate, foldl_keeps State.classifier, foldl_keeps State.ctl, foldl_keeps State.pins, foldl_keeps State.pending]

@[simp] theorem detachWatch_frame (s : State) (b : BinNo) :
    (s.detachWatch b).cfg = s.cfg ∧ (s.detachWatch b).pos = s.pos ∧ (s.detachWatch b).gate = s.gate ∧
    (s.detachWatch b).classifier = s.classifier ∧ (s.detachWatch b).port = s.port ∧ (s.detachWatch b).ltu = s.ltu ∧
    (s.detachWatch b).ctl = s.ctl ∧ (s.detachWatch b).pins = s.pins ∧ (s.detachWatch b).counters = s.counters ∧
    (s.detachWatch b).pending = s.pending := by
  unfold State.detachWatch; try dsimp only
  (repeat' split) <;> simp [foldl_keeps State.cfg, foldl_keeps State.pos, foldl_keeps State.gate, foldl_keeps State.classifier, foldl_keeps State.port, foldl_keeps State.ltu, foldl_keeps State.ctl, foldl_keeps State.pins, foldl_keeps State.counters, foldl_keeps State.pending]

@[simp] theorem clearFault_frame (s : State) (b : BinNo) :
    (s.clearFault b).cfg = s.cfg ∧ (s.clearFault b).pos = s.pos ∧ (s.clearFault b).gate = s.gate ∧
    (s.clearFault b).classifier = s.classifier ∧ (s.clearFault b).trk = s.trk ∧ (s.clearFault b).port = s.port ∧
    (s.clearFault b).ltu = s.ltu ∧ (s.clearFault b).ctl = s.ctl ∧ (s.clearFault b).pins = s.pins ∧
    (s.clearFault b).counters = s.counters ∧ (s.clearFault b).pending = s.pending := by
  unfold State.clearFault; try dsimp only
  (repeat' split) <;> simp

@[simp] theorem removeBin_frame (s : State) (b : BinNo) :
    (State.removeBin b s).cfg = s.cfg ∧ (State.removeBin b s).pos = s.pos ∧ (State.removeBin b s).gate = s.gate ∧
    (State.removeBin b s).classifier = s.classifier ∧ (State.removeBin b s).ctl = s.ctl ∧
    (State.removeBin b s).pins = s.pins ∧ (State.removeBin b s).pending = s.pending := by
  unfold State.removeBin; try dsimp only
  (repeat' split) <;> simp

@[simp] theorem removal_frame (s : State) (b : BinNo) :
    (State.removal b s).cfg = s.cfg ∧ (State.removal b s).pos = s.pos ∧ (State.removal b s).gate = s.gate ∧
    (State.removal b s).classifier = s.classifier ∧ (State.removal b s).ctl = s.ctl ∧
    (State.removal b s).pins = s.pins ∧ (State.removal b s).pending = s.pending := by
  unfold State.removal; try dsimp only
  (repeat' split) <;> simp

@[simp] theorem fillUp_frame (s : State) (b : BinNo) :
    (State.fillUp b s).cfg = s.cfg ∧ (State.fillUp b s).pos = s.pos ∧ (State.fillUp b s).gate = s.gate ∧
    (State.fillUp b s).classifier = s.classifier ∧ (State.fillUp b s).ctl = s.ctl ∧ (State.fillUp b s).pins = s.pins ∧
    (State.fillUp b s).pending = s.pending := by
  unfold State.fillUp; try dsimp only
  (repeat' split) <;> simp

@[simp] theorem fullSensorRise_frame (s : State) (b : BinNo) :
    (State.fullSensorRise b s).cfg = s.cfg ∧ (State.fullSensorRise b s).pos = s.pos ∧
    (State.fullSensorRise b s).gate = s.gate ∧ (State.fullSensorRise b s).classifier = s.classifier ∧
    (State.fullSensorRise b s).ctl = s.ctl ∧ (State.fullSensorRise b s).pins = s.pins ∧
    (State.fullSensorRise b s).pending = s.pending := by
  unfold State.fullSensorRise; try dsimp only
  (repeat' split) <;> simp

@[simp] theorem binEvent_frame (s : State) (e : BinEvent) :
    (s.binEvent e).cfg = s.cfg ∧ (s.binEvent e).pos = s.pos ∧ (s.binEvent e).gate = s.gate ∧
    (s.binEvent e).classifier = s.classifier ∧ (s.binEvent e).ctl = s.ctl ∧ (s.binEvent e).pins = s.pins ∧
    (s.binEvent e).pending = s.pending := by
  unfold State.binEvent; try dsimp only
  (repeat' split) <;> simp

@[simp] theorem takeBetween_frame (s : State) :
    (s.takeBetween).cfg = s.cfg ∧ (s.takeBetween).pos = s.pos ∧ (s.takeBetween).gate = s.gate ∧
    (s.takeBetween).classifier = s.classifier ∧ (s.takeBetween).ctl = s.ctl ∧ (s.takeBetween).pins = s.pins ∧
    (s.takeBetween).pending = s.pending := by
  unfold State.takeBetween; try dsimp only
  (repeat' split) <;> simp [foldl_keeps State.cfg, foldl_keeps State.pos, foldl_keeps State.gate, foldl_keeps State.classifier, foldl_keeps State.ctl, foldl_keeps State.pins, foldl_keeps State.pending]

@[simp] theorem take_frame (s : State) (n : Nat) (t : Ticket) (b : BinNo) :
    ((s.take n t b).1).cfg = s.cfg ∧ ((s.take n t b).1).pos = s.pos ∧ ((s.take n t b).1).gate = s.gate ∧
    ((s.take n t b).1).classifier = s.classifier ∧ ((s.take n t b).1).ctl = s.ctl ∧ ((s.take n t b).1).pins = s.pins ∧
    ((s.take n t b).1).pending = s.pending := by
  unfold State.take; try dsimp only
  (repeat' split) <;> simp

@[simp] theorem decision_frame (s : State) (n : Nat) (t : Ticket) :
    ((s.decision n t).1).cfg = s.cfg ∧ ((s.decision n t).1).pos = s.pos ∧ ((s.decision n t).1).gate = s.gate ∧
    ((s.decision n t).1).classifier = s.classifier ∧ ((s.decision n t).1).ctl = s.ctl ∧
    ((s.decision n t).1).pins = s.pins ∧ ((s.decision n t).1).pending = s.pending := by
  unfold State.decision; try dsimp only
  (repeat' split) <;> simp

@[simp] theorem fire_frame (s : State) (b : BinNo) (n : Nat) :
    (s.fire b n).cfg = s.cfg ∧ (s.fire b n).retention = s.retention ∧ (s.fire b n).pos = s.pos ∧
    (s.fire b n).gate = s.gate ∧ (s.fire b n).classifier = s.classifier ∧ (s.fire b n).bins = s.bins ∧
    (s.fire b n).port = s.port ∧ (s.fire b n).ltu = s.ltu ∧ (s.fire b n).ctl = s.ctl ∧ (s.fire b n).pins = s.pins ∧
    (s.fire b n).counters = s.counters ∧ (s.fire b n).pending = s.pending := by
  unfold State.fire; try dsimp only
  (repeat' split) <;> simp

@[simp] theorem fireHead_frame (s : State) (b : BinNo) (it : SchedItem) :
    (s.fireHead b it).cfg = s.cfg ∧ (s.fireHead b it).pos = s.pos ∧ (s.fireHead b it).gate = s.gate ∧
    (s.fireHead b it).classifier = s.classifier ∧ (s.fireHead b it).ctl = s.ctl ∧ (s.fireHead b it).pins = s.pins ∧
    (s.fireHead b it).pending = s.pending := by
  unfold State.fireHead; try dsimp only
  (repeat' split) <;> simp

@[simp] theorem fireEjector_frame (s : State) (ev : StepEvent) (b : BinNo) :
    (State.fireEjector ev s b).cfg = s.cfg ∧ (State.fireEjector ev s b).pos = s.pos ∧
    (State.fireEjector ev s b).gate = s.gate ∧ (State.fireEjector ev s b).classifier = s.classifier ∧
    (State.fireEjector ev s b).ctl = s.ctl ∧ (State.fireEjector ev s b).pins = s.pins ∧
    (State.fireEjector ev s b).pending = s.pending := by
  unfold State.fireEjector; try dsimp only
  (repeat' split) <;> simp [foldl_keeps State.cfg, foldl_keeps State.pos, foldl_keeps State.gate, foldl_keeps State.classifier, foldl_keeps State.ctl, foldl_keeps State.pins, foldl_keeps State.pending]

@[simp] theorem fires_frame (s : State) (ev : StepEvent) :
    (s.fires ev).cfg = s.cfg ∧ (s.fires ev).pos = s.pos ∧ (s.fires ev).gate = s.gate ∧
    (s.fires ev).classifier = s.classifier ∧ (s.fires ev).ctl = s.ctl ∧ (s.fires ev).pins = s.pins ∧
    (s.fires ev).pending = s.pending := by
  unfold State.fires; try dsimp only
  (repeat' split) <;> simp [foldl_keeps State.cfg, foldl_keeps State.pos, foldl_keeps State.gate, foldl_keeps State.classifier, foldl_keeps State.ctl, foldl_keeps State.pins, foldl_keeps State.pending]

@[simp] theorem verifiedClear_frame (s : State) (b : BinNo) (w : WatchItem) :
    (s.verifiedClear b w).cfg = s.cfg ∧ (s.verifiedClear b w).pos = s.pos ∧ (s.verifiedClear b w).gate = s.gate ∧
    (s.verifiedClear b w).classifier = s.classifier ∧ (s.verifiedClear b w).ctl = s.ctl ∧
    (s.verifiedClear b w).pins = s.pins ∧ (s.verifiedClear b w).pending = s.pending := by
  unfold State.verifiedClear; try dsimp only
  (repeat' split) <;> simp

@[simp] theorem verifiedBlocked_frame (s : State) (b : BinNo) (w : WatchItem) :
    (s.verifiedBlocked b w).cfg = s.cfg ∧ (s.verifiedBlocked b w).pos = s.pos ∧
    (s.verifiedBlocked b w).gate = s.gate ∧ (s.verifiedBlocked b w).classifier = s.classifier ∧
    (s.verifiedBlocked b w).ctl = s.ctl ∧ (s.verifiedBlocked b w).pins = s.pins ∧
    (s.verifiedBlocked b w).pending = s.pending := by
  unfold State.verifiedBlocked; try dsimp only
  (repeat' split) <;> simp

@[simp] theorem verifyItem_frame (s : State) (b : BinNo) (w : WatchItem) :
    (s.verifyItem b w).cfg = s.cfg ∧ (s.verifyItem b w).pos = s.pos ∧ (s.verifyItem b w).gate = s.gate ∧
    (s.verifyItem b w).classifier = s.classifier ∧ (s.verifyItem b w).ctl = s.ctl ∧ (s.verifyItem b w).pins = s.pins ∧
    (s.verifyItem b w).pending = s.pending := by
  unfold State.verifyItem; try dsimp only
  (repeat' split) <;> simp

@[simp] theorem verifyEjector_frame (s : State) (ev : StepEvent) (b : BinNo) :
    (State.verifyEjector ev s b).cfg = s.cfg ∧ (State.verifyEjector ev s b).pos = s.pos ∧
    (State.verifyEjector ev s b).gate = s.gate ∧ (State.verifyEjector ev s b).classifier = s.classifier ∧
    (State.verifyEjector ev s b).ctl = s.ctl ∧ (State.verifyEjector ev s b).pins = s.pins ∧
    (State.verifyEjector ev s b).pending = s.pending := by
  unfold State.verifyEjector; try dsimp only
  (repeat' split) <;> simp [foldl_keeps State.cfg, foldl_keeps State.pos, foldl_keeps State.gate, foldl_keeps State.classifier, foldl_keeps State.ctl, foldl_keeps State.pins, foldl_keeps State.pending]

@[simp] theorem verifies_frame (s : State) (ev : StepEvent) :
    (s.verifies ev).cfg = s.cfg ∧ (s.verifies ev).pos = s.pos ∧ (s.verifies ev).gate = s.gate ∧
    (s.verifies ev).classifier = s.classifier ∧ (s.verifies ev).ctl = s.ctl ∧ (s.verifies ev).pins = s.pins ∧
    (s.verifies ev).pending = s.pending := by
  unfold State.verifies; try dsimp only
  (repeat' split) <;> simp [foldl_keeps State.cfg, foldl_keeps State.pos, foldl_keeps State.gate, foldl_keeps State.classifier, foldl_keeps State.ctl, foldl_keeps State.pins, foldl_keeps State.pending]

@[simp] theorem settleWatches_frame (s : State) :
    (s.settleWatches).cfg = s.cfg ∧ (s.settleWatches).retention = s.retention ∧ (s.settleWatches).pos = s.pos ∧
    (s.settleWatches).gate = s.gate ∧ (s.settleWatches).classifier = s.classifier ∧ (s.settleWatches).trk = s.trk ∧
    (s.settleWatches).bins = s.bins ∧ (s.settleWatches).port = s.port ∧ (s.settleWatches).ltu = s.ltu ∧
    (s.settleWatches).ctl = s.ctl ∧ (s.settleWatches).pins = s.pins ∧ (s.settleWatches).counters = s.counters ∧
    (s.settleWatches).pending = s.pending := by
  unfold State.settleWatches; try dsimp only
  (repeat' split) <;> simp

@[simp] theorem setExpect_frame (s : State) (l : List ExpectEntry) :
    (s.setExpect l).cfg = s.cfg ∧ (s.setExpect l).retention = s.retention ∧ (s.setExpect l).pos = s.pos ∧
    (s.setExpect l).gate = s.gate ∧ (s.setExpect l).classifier = s.classifier ∧ (s.setExpect l).bins = s.bins ∧
    (s.setExpect l).ej = s.ej ∧ (s.setExpect l).port = s.port ∧ (s.setExpect l).ltu = s.ltu ∧
    (s.setExpect l).ctl = s.ctl ∧ (s.setExpect l).pins = s.pins ∧ (s.setExpect l).counters = s.counters ∧
    (s.setExpect l).pending = s.pending := by
  unfold State.setExpect; try dsimp only
  (repeat' split) <;> simp

@[simp] theorem openedNotice_frame (s : State) (n : Nat) :
    (s.openedNotice n).cfg = s.cfg ∧ (s.openedNotice n).retention = s.retention ∧ (s.openedNotice n).pos = s.pos ∧
    (s.openedNotice n).gate = s.gate ∧ (s.openedNotice n).classifier = s.classifier ∧
    (s.openedNotice n).bins = s.bins ∧ (s.openedNotice n).ej = s.ej ∧ (s.openedNotice n).port = s.port ∧
    (s.openedNotice n).ltu = s.ltu ∧ (s.openedNotice n).ctl = s.ctl ∧ (s.openedNotice n).pins = s.pins ∧
    (s.openedNotice n).counters = s.counters ∧ (s.openedNotice n).pending = s.pending := by
  unfold State.openedNotice; try dsimp only
  (repeat' split) <;> simp

@[simp] theorem releaseLink_frame (s : State) (n : Nat) :
    (s.releaseLink n).cfg = s.cfg ∧ (s.releaseLink n).retention = s.retention ∧ (s.releaseLink n).pos = s.pos ∧
    (s.releaseLink n).gate = s.gate ∧ (s.releaseLink n).classifier = s.classifier ∧ (s.releaseLink n).bins = s.bins ∧
    (s.releaseLink n).ej = s.ej ∧ (s.releaseLink n).port = s.port ∧ (s.releaseLink n).ltu = s.ltu ∧
    (s.releaseLink n).ctl = s.ctl ∧ (s.releaseLink n).pins = s.pins ∧ (s.releaseLink n).counters = s.counters ∧
    (s.releaseLink n).pending = s.pending := by
  unfold State.releaseLink; try dsimp only
  (repeat' split) <;> simp

@[simp] theorem loseEntries_frame (s : State) (g : ExpectEntry → Bool) :
    (s.loseEntries g).cfg = s.cfg ∧ (s.loseEntries g).retention = s.retention ∧ (s.loseEntries g).pos = s.pos ∧
    (s.loseEntries g).gate = s.gate ∧ (s.loseEntries g).classifier = s.classifier ∧ (s.loseEntries g).bins = s.bins ∧
    (s.loseEntries g).ej = s.ej ∧ (s.loseEntries g).port = s.port ∧ (s.loseEntries g).ltu = s.ltu ∧
    (s.loseEntries g).ctl = s.ctl ∧ (s.loseEntries g).pins = s.pins ∧ (s.loseEntries g).pending = s.pending := by
  unfold State.loseEntries; try dsimp only
  (repeat' split) <;> simp

@[simp] theorem expireAfterPlacement_frame (s : State) :
    (s.expireAfterPlacement).cfg = s.cfg ∧ (s.expireAfterPlacement).retention = s.retention ∧
    (s.expireAfterPlacement).pos = s.pos ∧ (s.expireAfterPlacement).gate = s.gate ∧
    (s.expireAfterPlacement).classifier = s.classifier ∧ (s.expireAfterPlacement).bins = s.bins ∧
    (s.expireAfterPlacement).ej = s.ej ∧ (s.expireAfterPlacement).port = s.port ∧
    (s.expireAfterPlacement).ltu = s.ltu ∧ (s.expireAfterPlacement).ctl = s.ctl ∧
    (s.expireAfterPlacement).pins = s.pins ∧ (s.expireAfterPlacement).pending = s.pending := by
  unfold State.expireAfterPlacement; try dsimp only
  (repeat' split) <;> simp

@[simp] theorem expireAtStep_frame (s : State) :
    (s.expireAtStep).cfg = s.cfg ∧ (s.expireAtStep).retention = s.retention ∧ (s.expireAtStep).pos = s.pos ∧
    (s.expireAtStep).gate = s.gate ∧ (s.expireAtStep).classifier = s.classifier ∧ (s.expireAtStep).bins = s.bins ∧
    (s.expireAtStep).ej = s.ej ∧ (s.expireAtStep).port = s.port ∧ (s.expireAtStep).ltu = s.ltu ∧
    (s.expireAtStep).ctl = s.ctl ∧ (s.expireAtStep).pins = s.pins ∧ (s.expireAtStep).pending = s.pending := by
  unfold State.expireAtStep; try dsimp only
  (repeat' split) <;> simp

@[simp] theorem advanceSerial_frame (s : State) (n : Nat) :
    (s.advanceSerial n).cfg = s.cfg ∧ (s.advanceSerial n).pos = s.pos ∧ (s.advanceSerial n).gate = s.gate ∧
    (s.advanceSerial n).classifier = s.classifier ∧ (s.advanceSerial n).bins = s.bins ∧
    (s.advanceSerial n).ej = s.ej ∧ (s.advanceSerial n).port = s.port ∧ (s.advanceSerial n).ltu = s.ltu ∧
    (s.advanceSerial n).ctl = s.ctl ∧ (s.advanceSerial n).pins = s.pins ∧ (s.advanceSerial n).counters = s.counters ∧
    (s.advanceSerial n).pending = s.pending := by
  unfold State.advanceSerial; try dsimp only
  (repeat' split) <;> simp

@[simp] theorem insertItem_frame (s : State) (t : Ticket) (stray : Bool) (k : Counter) :
    (s.insertItem t stray k).cfg = s.cfg ∧ (s.insertItem t stray k).pos = s.pos ∧
    (s.insertItem t stray k).gate = s.gate ∧ (s.insertItem t stray k).classifier = s.classifier ∧
    (s.insertItem t stray k).ctl = s.ctl ∧ (s.insertItem t stray k).pins = s.pins ∧
    (s.insertItem t stray k).pending = s.pending := by
  unfold State.insertItem; try dsimp only
  (repeat' split) <;> simp

@[simp] theorem place_frame (s : State) (d : Detection) :
    (s.place d).cfg = s.cfg ∧ (s.place d).pos = s.pos ∧ (s.place d).gate = s.gate ∧
    (s.place d).classifier = s.classifier ∧ (s.place d).ctl = s.ctl ∧ (s.place d).pins = s.pins ∧
    (s.place d).pending = s.pending := by
  unfold State.place; try dsimp only
  (repeat' split) <;> simp

@[simp] theorem handOver_frame (s : State) (d : Detection) :
    (s.handOver d).cfg = s.cfg ∧ (s.handOver d).pos = s.pos ∧ (s.handOver d).gate = s.gate ∧
    (s.handOver d).classifier = s.classifier ∧ (s.handOver d).ctl = s.ctl ∧ (s.handOver d).pins = s.pins ∧
    (s.handOver d).pending = s.pending := by
  unfold State.handOver; try dsimp only
  (repeat' split) <;> simp

@[simp] theorem insertExpect_frame (s : State) (e : ExpectEntry) (l : List ExpectEntry) :
    (s.insertExpect e l).cfg = s.cfg ∧ (s.insertExpect e l).retention = s.retention ∧
    (s.insertExpect e l).pos = s.pos ∧ (s.insertExpect e l).gate = s.gate ∧
    (s.insertExpect e l).classifier = s.classifier ∧ (s.insertExpect e l).bins = s.bins ∧
    (s.insertExpect e l).ej = s.ej ∧ (s.insertExpect e l).port = s.port ∧ (s.insertExpect e l).ltu = s.ltu ∧
    (s.insertExpect e l).ctl = s.ctl ∧ (s.insertExpect e l).pins = s.pins ∧
    (s.insertExpect e l).counters = s.counters ∧ (s.insertExpect e l).pending = s.pending := by
  unfold State.insertExpect; try dsimp only
  (repeat' split) <;> simp

@[simp] theorem admitTicket_frame (s : State) (e : ExpectEntry) :
    (s.admitTicket e).cfg = s.cfg ∧ (s.admitTicket e).retention = s.retention ∧ (s.admitTicket e).pos = s.pos ∧
    (s.admitTicket e).gate = s.gate ∧ (s.admitTicket e).classifier = s.classifier ∧ (s.admitTicket e).bins = s.bins ∧
    (s.admitTicket e).ej = s.ej ∧ (s.admitTicket e).port = s.port ∧ (s.admitTicket e).ltu = s.ltu ∧ (s.admitTicket e).ctl = s.ctl ∧
    (s.admitTicket e).pins = s.pins ∧ (s.admitTicket e).pending = s.pending := by
  unfold State.admitTicket; try dsimp only
  (repeat' split) <;> simp

@[simp] theorem lateTicket_frame (s : State) (t : Ticket) :
    (s.lateTicket t).cfg = s.cfg ∧ (s.lateTicket t).retention = s.retention ∧ (s.lateTicket t).pos = s.pos ∧
    (s.lateTicket t).gate = s.gate ∧ (s.lateTicket t).classifier = s.classifier ∧ (s.lateTicket t).bins = s.bins ∧
    (s.lateTicket t).ej = s.ej ∧ (s.lateTicket t).port = s.port ∧ (s.lateTicket t).ltu = s.ltu ∧
    (s.lateTicket t).ctl = s.ctl ∧ (s.lateTicket t).pins = s.pins ∧ (s.lateTicket t).pending = s.pending := by
  unfold State.lateTicket; try dsimp only
  (repeat' split) <;> simp

@[simp] theorem testTicket_frame (s : State) (e : ExpectEntry) :
    (s.testTicket e).cfg = s.cfg ∧ (s.testTicket e).retention = s.retention ∧ (s.testTicket e).pos = s.pos ∧
    (s.testTicket e).gate = s.gate ∧ (s.testTicket e).classifier = s.classifier ∧ (s.testTicket e).bins = s.bins ∧
    (s.testTicket e).ej = s.ej ∧ (s.testTicket e).port = s.port ∧ (s.testTicket e).ltu = s.ltu ∧
    (s.testTicket e).ctl = s.ctl ∧ (s.testTicket e).pins = s.pins ∧ (s.testTicket e).pending = s.pending := by
  unfold State.testTicket; try dsimp only
  (repeat' split) <;> simp

@[simp] theorem ticketArrival_frame (s : State) (o : Nat) (p : List Byte) :
    (s.ticketArrival o p).cfg = s.cfg ∧ (s.ticketArrival o p).retention = s.retention ∧
    (s.ticketArrival o p).pos = s.pos ∧ (s.ticketArrival o p).gate = s.gate ∧
    (s.ticketArrival o p).classifier = s.classifier ∧ (s.ticketArrival o p).bins = s.bins ∧
    (s.ticketArrival o p).ej = s.ej ∧ (s.ticketArrival o p).port = s.port ∧ (s.ticketArrival o p).ltu = s.ltu ∧
    (s.ticketArrival o p).ctl = s.ctl ∧ (s.ticketArrival o p).pins = s.pins ∧
    (s.ticketArrival o p).pending = s.pending := by
  unfold State.ticketArrival; try dsimp only
  (repeat' split) <;> simp

@[simp] theorem withdraw_frame (s : State) (e : TransitEntry) :
    (s.withdraw e).cfg = s.cfg ∧ (s.withdraw e).pos = s.pos ∧ (s.withdraw e).gate = s.gate ∧
    (s.withdraw e).classifier = s.classifier ∧ (s.withdraw e).trk = s.trk ∧ (s.withdraw e).port = s.port ∧
    (s.withdraw e).ltu = s.ltu ∧ (s.withdraw e).ctl = s.ctl ∧ (s.withdraw e).pins = s.pins ∧
    (s.withdraw e).counters = s.counters ∧ (s.withdraw e).pending = s.pending := by
  unfold State.withdraw; try dsimp only
  (repeat' split) <;> simp

@[simp] theorem flush_frame (s : State) :
    (s.flush).cfg = s.cfg ∧ (s.flush).pos = s.pos ∧ (s.flush).gate = s.gate ∧ (s.flush).classifier = s.classifier ∧
    (s.flush).port = s.port ∧ (s.flush).ltu = s.ltu ∧ (s.flush).ctl = s.ctl ∧ (s.flush).pins = s.pins ∧
    (s.flush).pending = s.pending := by
  unfold State.flush; try dsimp only
  (repeat' split) <;> simp [foldl_keeps State.cfg, foldl_keeps State.pos, foldl_keeps State.gate, foldl_keeps State.classifier, foldl_keeps State.port, foldl_keeps State.ltu, foldl_keeps State.ctl, foldl_keeps State.pins, foldl_keeps State.pending]

@[simp] theorem trackStep_frame (s : State) (ev : StepEvent) :
    (s.trackStep ev).cfg = s.cfg ∧ (s.trackStep ev).pos = s.pos ∧ (s.trackStep ev).gate = s.gate ∧
    (s.trackStep ev).classifier = s.classifier ∧ (s.trackStep ev).ctl = s.ctl ∧ (s.trackStep ev).pins = s.pins ∧
    (s.trackStep ev).pending = s.pending := by
  unfold State.trackStep; try dsimp only
  (repeat' split) <;> simp

end Sys2Proof.Machine
end

