-- ==== Sys2Proof/Laws/FrameBelt.lean ====
section
/-! SUPPORT. What the operations of this group leave as it was, one lemma for each block they do not touch. -/

namespace Sys2Proof.Machine

@[simp] theorem closing_frame (s : State) (d : Detection) (a : GateState) :
    (s.closing d a).cfg = s.cfg ∧ (s.closing d a).pos = s.pos ∧ (s.closing d a).classifier = s.classifier ∧
    (s.closing d a).ctl = s.ctl ∧ (s.closing d a).pins = s.pins ∧ (s.closing d a).pending = s.pending := by
  unfold State.closing; try dsimp only
  (repeat' split) <;> simp

@[simp] theorem cutDetection_frame (s : State) (r : OpenRecord) (a : GateState) :
    (s.cutDetection r a).cfg = s.cfg ∧ (s.cutDetection r a).pos = s.pos ∧
    (s.cutDetection r a).classifier = s.classifier ∧ (s.cutDetection r a).ctl = s.ctl ∧
    (s.cutDetection r a).pins = s.pins ∧ (s.cutDetection r a).pending = s.pending := by
  unfold State.cutDetection; try dsimp only
  (repeat' split) <;> simp

@[simp] theorem clearSample_frame (s : State) (p : Nat) (r : OpenRecord) (n : Nat) :
    (s.clearSample p r n).cfg = s.cfg ∧ (s.clearSample p r n).pos = s.pos ∧
    (s.clearSample p r n).classifier = s.classifier ∧ (s.clearSample p r n).ctl = s.ctl ∧
    (s.clearSample p r n).pins = s.pins ∧ (s.clearSample p r n).pending = s.pending := by
  unfold State.clearSample; try dsimp only
  (repeat' split) <;> simp

@[simp] theorem openSample_frame (s : State) (p : Nat) (r : OpenRecord) (c : CurtainSample) :
    (s.openSample p r c).cfg = s.cfg ∧ (s.openSample p r c).pos = s.pos ∧
    (s.openSample p r c).classifier = s.classifier ∧ (s.openSample p r c).ctl = s.ctl ∧
    (s.openSample p r c).pins = s.pins ∧ (s.openSample p r c).pending = s.pending := by
  unfold State.openSample; try dsimp only
  (repeat' split) <;> simp

@[simp] theorem detect_frame (s : State) (p : Nat) (c : CurtainSample) :
    (s.detect p c).cfg = s.cfg ∧ (s.detect p c).pos = s.pos ∧ (s.detect p c).classifier = s.classifier ∧
    (s.detect p c).ctl = s.ctl ∧ (s.detect p c).pins = s.pins ∧ (s.detect p c).pending = s.pending := by
  unfold State.detect; try dsimp only
  (repeat' split) <;> simp

@[simp] theorem discontinuity_frame (s : State) (c : CurtainSample) :
    (s.discontinuity c).cfg = s.cfg ∧ (s.discontinuity c).retention = s.retention ∧ (s.discontinuity c).pos = s.pos ∧
    (s.discontinuity c).classifier = s.classifier ∧ (s.discontinuity c).bins = s.bins ∧
    (s.discontinuity c).ej = s.ej ∧ (s.discontinuity c).port = s.port ∧ (s.discontinuity c).ltu = s.ltu ∧
    (s.discontinuity c).ctl = s.ctl ∧ (s.discontinuity c).pins = s.pins ∧ (s.discontinuity c).counters = s.counters ∧
    (s.discontinuity c).pending = s.pending := by
  unfold State.discontinuity; try dsimp only
  (repeat' split) <;> simp [foldl_keeps State.cfg, foldl_keeps State.retention, foldl_keeps State.pos, foldl_keeps State.classifier, foldl_keeps State.bins, foldl_keeps State.ej, foldl_keeps State.port, foldl_keeps State.ltu, foldl_keeps State.ctl, foldl_keeps State.pins, foldl_keeps State.counters, foldl_keeps State.pending]

@[simp] theorem gateStep_frame (s : State) (ev : StepEvent) :
    (s.gateStep ev).cfg = s.cfg ∧ (s.gateStep ev).pos = s.pos ∧ (s.gateStep ev).classifier = s.classifier ∧
    (s.gateStep ev).ctl = s.ctl ∧ (s.gateStep ev).pins = s.pins ∧ (s.gateStep ev).pending = s.pending := by
  unfold State.gateStep; try dsimp only
  (repeat' split) <;> simp

@[simp] theorem closeWindow_frame (s : State) (o : WindowClose) :
    (s.closeWindow o).cfg = s.cfg ∧ (s.closeWindow o).pos = s.pos ∧ (s.closeWindow o).classifier = s.classifier ∧
    (s.closeWindow o).ctl = s.ctl ∧ (s.closeWindow o).pins = s.pins ∧ (s.closeWindow o).pending = s.pending := by
  unfold State.closeWindow; try dsimp only
  (repeat' split) <;> simp [foldl_keeps State.cfg, foldl_keeps State.pos, foldl_keeps State.classifier, foldl_keeps State.ctl, foldl_keeps State.pins, foldl_keeps State.pending]

@[simp] theorem announce_frame (s : State) (c : Condition) :
    (s.announce c).cfg = s.cfg ∧ (s.announce c).retention = s.retention ∧ (s.announce c).pos = s.pos ∧
    (s.announce c).gate = s.gate ∧ (s.announce c).classifier = s.classifier ∧ (s.announce c).trk = s.trk ∧
    (s.announce c).ej = s.ej ∧ (s.announce c).port = s.port ∧ (s.announce c).ctl = s.ctl ∧
    (s.announce c).pins = s.pins ∧ (s.announce c).counters = s.counters ∧ (s.announce c).pending = s.pending := by
  unfold State.announce; try dsimp only
  (repeat' split) <;> simp

@[simp] theorem keepPair_frame (s : State) (l : Bool) :
    (s.keepPair l).cfg = s.cfg ∧ (s.keepPair l).pos = s.pos ∧ (s.keepPair l).gate = s.gate ∧
    (s.keepPair l).classifier = s.classifier ∧ (s.keepPair l).trk = s.trk ∧ (s.keepPair l).bins = s.bins ∧
    (s.keepPair l).ej = s.ej ∧ (s.keepPair l).port = s.port ∧ (s.keepPair l).ltu = s.ltu ∧
    (s.keepPair l).ctl = s.ctl ∧ (s.keepPair l).pins = s.pins ∧ (s.keepPair l).counters = s.counters ∧
    (s.keepPair l).pending = s.pending := by
  unfold State.keepPair; try dsimp only
  (repeat' split) <;> simp

@[simp] theorem boundary_frame (s : State) (k : BoundaryKind) :
    (s.boundary k).cfg = s.cfg ∧ (s.boundary k).gate = s.gate ∧ (s.boundary k).classifier = s.classifier ∧
    (s.boundary k).trk = s.trk ∧ (s.boundary k).ej = s.ej ∧ (s.boundary k).port = s.port ∧
    (s.boundary k).ctl = s.ctl ∧ (s.boundary k).pins = s.pins ∧ (s.boundary k).pending = s.pending := by
  unfold State.boundary; try dsimp only
  (repeat' split) <;> simp

@[simp] theorem runPart_frame (s : State) (ev : StepEvent) (p : StepPart) :
    (State.runPart ev s p).cfg = s.cfg ∧ (State.runPart ev s p).pos = s.pos ∧
    (State.runPart ev s p).classifier = s.classifier ∧ (State.runPart ev s p).ctl = s.ctl ∧
    (State.runPart ev s p).pins = s.pins ∧ (State.runPart ev s p).pending = s.pending := by
  unfold State.runPart; try dsimp only
  (repeat' split) <;> simp

@[simp] theorem sample_frame (s : State) (m : Samples) :
    (s.sample m).cfg = s.cfg ∧ (s.sample m).retention = s.retention ∧ (s.sample m).pos = s.pos ∧
    (s.sample m).gate = s.gate ∧ (s.sample m).classifier = s.classifier ∧ (s.sample m).trk = s.trk ∧
    (s.sample m).bins = s.bins ∧ (s.sample m).ej = s.ej ∧ (s.sample m).port = s.port ∧ (s.sample m).ltu = s.ltu ∧
    (s.sample m).ctl = s.ctl ∧ (s.sample m).counters = s.counters ∧ (s.sample m).pending = s.pending := by
  unfold State.sample; try dsimp only
  (repeat' split) <;> simp

@[simp] theorem stepEvent_frame (s : State) (m : Samples) (ev : StepEvent) :
    (s.stepEvent m ev).cfg = s.cfg ∧ (s.stepEvent m ev).pos = s.pos ∧ (s.stepEvent m ev).classifier = s.classifier ∧
    (s.stepEvent m ev).ctl = s.ctl ∧ (s.stepEvent m ev).pending = s.pending := by
  unfold State.stepEvent; try dsimp only
  (repeat' split) <;> simp [foldl_keeps State.cfg, foldl_keeps State.pos, foldl_keeps State.classifier, foldl_keeps State.ctl, foldl_keeps State.pending]

@[simp] theorem boundaryWithEvent_frame (s : State) (m : Samples) (k : BoundaryKind) :
    (s.boundaryWithEvent m k).cfg = s.cfg ∧ (s.boundaryWithEvent m k).classifier = s.classifier ∧
    (s.boundaryWithEvent m k).ctl = s.ctl ∧ (s.boundaryWithEvent m k).pending = s.pending := by
  unfold State.boundaryWithEvent; try dsimp only
  (repeat' split) <;> simp

@[simp] theorem stepOn_frame (s : State) (m : Samples) :
    (s.stepOn m).cfg = s.cfg ∧ (s.stepOn m).classifier = s.classifier ∧ (s.stepOn m).ctl = s.ctl ∧
    (s.stepOn m).pending = s.pending := by
  unfold State.stepOn; try dsimp only
  (repeat' split) <;> simp

@[simp] theorem stepComplete_frame (s : State) (m : Samples) :
    (s.stepComplete m).cfg = s.cfg ∧ (s.stepComplete m).classifier = s.classifier ∧ (s.stepComplete m).ctl = s.ctl ∧
    (s.stepComplete m).pending = s.pending := by
  unfold State.stepComplete; try dsimp only
  (repeat' split) <;> simp

@[simp] theorem pulse_frame (s : State) (m : Samples) :
    (s.pulse m).cfg = s.cfg ∧ (s.pulse m).classifier = s.classifier ∧ (s.pulse m).ctl = s.ctl ∧
    (s.pulse m).pending = s.pending := by
  unfold State.pulse; try dsimp only
  (repeat' split) <;> simp

@[simp] theorem freeRunMark_frame (s : State) :
    (s.freeRunMark).cfg = s.cfg ∧ (s.freeRunMark).retention = s.retention ∧ (s.freeRunMark).gate = s.gate ∧
    (s.freeRunMark).classifier = s.classifier ∧ (s.freeRunMark).trk = s.trk ∧ (s.freeRunMark).ej = s.ej ∧
    (s.freeRunMark).port = s.port ∧ (s.freeRunMark).ctl = s.ctl ∧ (s.freeRunMark).pins = s.pins ∧
    (s.freeRunMark).counters = s.counters ∧ (s.freeRunMark).pending = s.pending := by
  unfold State.freeRunMark; try dsimp only
  (repeat' split) <;> simp

@[simp] theorem fallbackMark_frame (s : State) (m : Samples) :
    (s.fallbackMark m).cfg = s.cfg ∧ (s.fallbackMark m).classifier = s.classifier ∧ (s.fallbackMark m).ctl = s.ctl ∧
    (s.fallbackMark m).pending = s.pending := by
  unfold State.fallbackMark; try dsimp only
  (repeat' split) <;> simp

@[simp] theorem mark_frame (s : State) (m : Samples) :
    (s.mark m).cfg = s.cfg ∧ (s.mark m).classifier = s.classifier ∧ (s.mark m).ctl = s.ctl ∧
    (s.mark m).pending = s.pending := by
  unfold State.mark; try dsimp only
  (repeat' split) <;> simp

@[simp] theorem watchdogExpiry_frame (s : State) :
    (s.watchdogExpiry).cfg = s.cfg ∧ (s.watchdogExpiry).retention = s.retention ∧ (s.watchdogExpiry).gate = s.gate ∧
    (s.watchdogExpiry).classifier = s.classifier ∧ (s.watchdogExpiry).trk = s.trk ∧ (s.watchdogExpiry).ej = s.ej ∧
    (s.watchdogExpiry).port = s.port ∧ (s.watchdogExpiry).ctl = s.ctl ∧ (s.watchdogExpiry).pins = s.pins ∧
    (s.watchdogExpiry).counters = s.counters ∧ (s.watchdogExpiry).pending = s.pending := by
  unfold State.watchdogExpiry; try dsimp only
  (repeat' split) <;> simp

@[simp] theorem synthesisedStep_frame (s : State) (m : Samples) :
    (s.synthesisedStep m).cfg = s.cfg ∧ (s.synthesisedStep m).classifier = s.classifier ∧
    (s.synthesisedStep m).ctl = s.ctl ∧ (s.synthesisedStep m).pending = s.pending := by
  unfold State.synthesisedStep; try dsimp only
  (repeat' split) <;> simp

end Sys2Proof.Machine
end

