-- ==== Sys2Proof/Laws/FrameModes.lean ====
section
/-! SUPPORT. What the operations of this group leave as it was, one lemma for each block they do not touch. -/

namespace Sys2Proof.Machine

@[simp] theorem halt_frame (s : State) (n : Nat) :
    (s.halt n).cfg = s.cfg ∧ (s.halt n).retention = s.retention ∧ (s.halt n).pos = s.pos ∧ (s.halt n).gate = s.gate ∧
    (s.halt n).classifier = s.classifier ∧ (s.halt n).trk = s.trk ∧ (s.halt n).bins = s.bins ∧ (s.halt n).ej = s.ej ∧
    (s.halt n).port = s.port ∧ (s.halt n).ltu = s.ltu ∧ (s.halt n).pins = s.pins ∧ (s.halt n).counters = s.counters ∧
    (s.halt n).pending = s.pending := by
  unfold State.halt; try dsimp only
  (repeat' split) <;> simp

@[simp] theorem attemptFailed_frame (s : State) :
    (s.attemptFailed).cfg = s.cfg ∧ (s.attemptFailed).retention = s.retention ∧ (s.attemptFailed).pos = s.pos ∧
    (s.attemptFailed).gate = s.gate ∧ (s.attemptFailed).classifier = s.classifier ∧ (s.attemptFailed).trk = s.trk ∧
    (s.attemptFailed).bins = s.bins ∧ (s.attemptFailed).ej = s.ej ∧ (s.attemptFailed).port = s.port ∧
    (s.attemptFailed).ltu = s.ltu ∧ (s.attemptFailed).pins = s.pins ∧ (s.attemptFailed).counters = s.counters ∧
    (s.attemptFailed).pending = s.pending := by
  unfold State.attemptFailed; try dsimp only
  (repeat' split) <;> simp

@[simp] theorem takeTable_frame (s : State) (i : List Byte) :
    (s.takeTable i).cfg = s.cfg ∧ (s.takeTable i).retention = s.retention ∧ (s.takeTable i).pos = s.pos ∧
    (s.takeTable i).gate = s.gate ∧ (s.takeTable i).trk = s.trk ∧ (s.takeTable i).bins = s.bins ∧
    (s.takeTable i).ej = s.ej ∧ (s.takeTable i).port = s.port ∧ (s.takeTable i).ltu = s.ltu ∧
    (s.takeTable i).ctl = s.ctl ∧ (s.takeTable i).pins = s.pins ∧ (s.takeTable i).counters = s.counters ∧
    (s.takeTable i).pending = s.pending := by
  unfold State.takeTable; try dsimp only
  (repeat' split) <;> simp

@[simp] theorem startPosition_frame (s : State) :
    (s.startPosition).cfg = s.cfg ∧ (s.startPosition).retention = s.retention ∧ (s.startPosition).gate = s.gate ∧
    (s.startPosition).classifier = s.classifier ∧ (s.startPosition).trk = s.trk ∧ (s.startPosition).bins = s.bins ∧
    (s.startPosition).ej = s.ej ∧ (s.startPosition).port = s.port ∧ (s.startPosition).ltu = s.ltu ∧
    (s.startPosition).ctl = s.ctl ∧ (s.startPosition).pins = s.pins ∧ (s.startPosition).counters = s.counters ∧
    (s.startPosition).pending = s.pending := by
  unfold State.startPosition; try dsimp only
  (repeat' split) <;> simp

@[simp] theorem startGate_frame (s : State) :
    (s.startGate).cfg = s.cfg ∧ (s.startGate).retention = s.retention ∧ (s.startGate).pos = s.pos ∧
    (s.startGate).classifier = s.classifier ∧ (s.startGate).trk = s.trk ∧ (s.startGate).bins = s.bins ∧
    (s.startGate).ej = s.ej ∧ (s.startGate).port = s.port ∧ (s.startGate).ltu = s.ltu ∧ (s.startGate).ctl = s.ctl ∧
    (s.startGate).pins = s.pins ∧ (s.startGate).counters = s.counters ∧ (s.startGate).pending = s.pending := by
  unfold State.startGate; try dsimp only
  (repeat' split) <;> simp

@[simp] theorem startEjector_frame (s : State) (b : BinNo) :
    (s.startEjector b).cfg = s.cfg ∧ (s.startEjector b).pos = s.pos ∧ (s.startEjector b).gate = s.gate ∧
    (s.startEjector b).classifier = s.classifier ∧ (s.startEjector b).ctl = s.ctl ∧ (s.startEjector b).pins = s.pins ∧
    (s.startEjector b).pending = s.pending := by
  unfold State.startEjector; try dsimp only
  (repeat' split) <;> simp

@[simp] theorem createOwnEntry_frame (s : State) :
    (s.createOwnEntry).cfg = s.cfg ∧ (s.createOwnEntry).retention = s.retention ∧ (s.createOwnEntry).pos = s.pos ∧
    (s.createOwnEntry).gate = s.gate ∧ (s.createOwnEntry).classifier = s.classifier ∧ (s.createOwnEntry).trk = s.trk ∧
    (s.createOwnEntry).bins = s.bins ∧ (s.createOwnEntry).ej = s.ej ∧ (s.createOwnEntry).port = s.port ∧
    (s.createOwnEntry).ctl = s.ctl ∧ (s.createOwnEntry).pins = s.pins ∧ (s.createOwnEntry).counters = s.counters ∧
    (s.createOwnEntry).pending = s.pending := by
  unfold State.createOwnEntry; try dsimp only
  (repeat' split) <;> simp

@[simp] theorem setMode_frame (s : State) (m : Mode) :
    (s.setMode m).cfg = s.cfg ∧ (s.setMode m).retention = s.retention ∧ (s.setMode m).pos = s.pos ∧
    (s.setMode m).gate = s.gate ∧ (s.setMode m).classifier = s.classifier ∧ (s.setMode m).trk = s.trk ∧
    (s.setMode m).bins = s.bins ∧ (s.setMode m).ej = s.ej ∧ (s.setMode m).port = s.port ∧ (s.setMode m).ltu = s.ltu ∧
    (s.setMode m).pins = s.pins ∧ (s.setMode m).counters = s.counters ∧ (s.setMode m).pending = s.pending := by
  unfold State.setMode; try dsimp only
  (repeat' split) <;> simp

@[simp] theorem enterService_frame (s : State) :
    (s.enterService).cfg = s.cfg ∧ (s.enterService).pos = s.pos ∧ (s.enterService).gate = s.gate ∧
    (s.enterService).classifier = s.classifier ∧ (s.enterService).pins = s.pins ∧
    (s.enterService).pending = s.pending := by
  unfold State.enterService; try dsimp only
  (repeat' split) <;> simp

@[simp] theorem leaveService_frame (s : State) :
    (s.leaveService).cfg = s.cfg ∧ (s.leaveService).pos = s.pos ∧ (s.leaveService).gate = s.gate ∧
    (s.leaveService).classifier = s.classifier ∧ (s.leaveService).trk = s.trk ∧ (s.leaveService).port = s.port ∧
    (s.leaveService).ltu = s.ltu ∧ (s.leaveService).pins = s.pins ∧ (s.leaveService).counters = s.counters ∧
    (s.leaveService).pending = s.pending := by
  unfold State.leaveService; try dsimp only
  (repeat' split) <;> simp [foldl_keeps State.cfg, foldl_keeps State.pos, foldl_keeps State.gate, foldl_keeps State.classifier, foldl_keeps State.trk, foldl_keeps State.port, foldl_keeps State.ltu, foldl_keeps State.pins, foldl_keeps State.counters, foldl_keeps State.pending]

@[simp] theorem enterSafe_frame (s : State) :
    (s.enterSafe).cfg = s.cfg ∧ (s.enterSafe).pos = s.pos ∧ (s.enterSafe).gate = s.gate ∧
    (s.enterSafe).classifier = s.classifier ∧ (s.enterSafe).pins = s.pins ∧ (s.enterSafe).pending = s.pending := by
  unfold State.enterSafe; try dsimp only
  (repeat' split) <;> simp

@[simp] theorem leaveSafe_frame (s : State) :
    (s.leaveSafe).cfg = s.cfg ∧ (s.leaveSafe).retention = s.retention ∧ (s.leaveSafe).pos = s.pos ∧
    (s.leaveSafe).gate = s.gate ∧ (s.leaveSafe).classifier = s.classifier ∧ (s.leaveSafe).trk = s.trk ∧
    (s.leaveSafe).ej = s.ej ∧ (s.leaveSafe).port = s.port ∧ (s.leaveSafe).ltu = s.ltu ∧ (s.leaveSafe).pins = s.pins ∧
    (s.leaveSafe).counters = s.counters ∧ (s.leaveSafe).pending = s.pending := by
  unfold State.leaveSafe; try dsimp only
  (repeat' split) <;> simp

@[simp] theorem answerAsked_frame (s : State) :
    (s.answerAsked).cfg = s.cfg ∧ (s.answerAsked).retention = s.retention ∧ (s.answerAsked).pos = s.pos ∧
    (s.answerAsked).gate = s.gate ∧ (s.answerAsked).classifier = s.classifier ∧ (s.answerAsked).trk = s.trk ∧
    (s.answerAsked).ej = s.ej ∧ (s.answerAsked).ctl = s.ctl ∧ (s.answerAsked).pins = s.pins ∧
    (s.answerAsked).pending = s.pending := by
  unfold State.answerAsked; try dsimp only
  (repeat' split) <;> simp

@[simp] theorem showLamp_frame (s : State) :
    (s.showLamp).cfg = s.cfg ∧ (s.showLamp).retention = s.retention ∧ (s.showLamp).pos = s.pos ∧
    (s.showLamp).gate = s.gate ∧ (s.showLamp).classifier = s.classifier ∧ (s.showLamp).trk = s.trk ∧
    (s.showLamp).bins = s.bins ∧ (s.showLamp).ej = s.ej ∧ (s.showLamp).port = s.port ∧ (s.showLamp).ltu = s.ltu ∧
    (s.showLamp).pins = s.pins ∧ (s.showLamp).counters = s.counters ∧ (s.showLamp).pending = s.pending := by
  unfold State.showLamp; try dsimp only
  (repeat' split) <;> simp

@[simp] theorem finish_frame (s : State) :
    (s.finish).cfg = s.cfg ∧ (s.finish).retention = s.retention ∧ (s.finish).pos = s.pos ∧ (s.finish).gate = s.gate ∧
    (s.finish).classifier = s.classifier ∧ (s.finish).trk = s.trk ∧ (s.finish).ej = s.ej ∧ (s.finish).pins = s.pins ∧
    (s.finish).pending = s.pending := by
  unfold State.finish; try dsimp only
  (repeat' split) <;> simp

@[simp] theorem setPeers_frame (s : State) (l : List PeerEntry) :
    (s.setPeers l).cfg = s.cfg ∧ (s.setPeers l).retention = s.retention ∧ (s.setPeers l).pos = s.pos ∧
    (s.setPeers l).gate = s.gate ∧ (s.setPeers l).classifier = s.classifier ∧ (s.setPeers l).trk = s.trk ∧
    (s.setPeers l).bins = s.bins ∧ (s.setPeers l).ej = s.ej ∧ (s.setPeers l).port = s.port ∧
    (s.setPeers l).ctl = s.ctl ∧ (s.setPeers l).pins = s.pins ∧ (s.setPeers l).counters = s.counters ∧
    (s.setPeers l).pending = s.pending := by
  unfold State.setPeers; try dsimp only
  (repeat' split) <;> simp

@[simp] theorem removePeer_frame (s : State) (a : Nat) :
    (s.removePeer a).cfg = s.cfg ∧ (s.removePeer a).retention = s.retention ∧ (s.removePeer a).pos = s.pos ∧
    (s.removePeer a).gate = s.gate ∧ (s.removePeer a).classifier = s.classifier ∧ (s.removePeer a).trk = s.trk ∧
    (s.removePeer a).ej = s.ej ∧ (s.removePeer a).port = s.port ∧ (s.removePeer a).ctl = s.ctl ∧
    (s.removePeer a).pins = s.pins ∧ (s.removePeer a).counters = s.counters ∧
    (s.removePeer a).pending = s.pending := by
  unfold State.removePeer; try dsimp only
  (repeat' split) <;> simp

@[simp] theorem hear_frame (s : State) (o : Nat) :
    (s.hear o).cfg = s.cfg ∧ (s.hear o).retention = s.retention ∧ (s.hear o).pos = s.pos ∧ (s.hear o).gate = s.gate ∧
    (s.hear o).classifier = s.classifier ∧ (s.hear o).trk = s.trk ∧ (s.hear o).bins = s.bins ∧ (s.hear o).ej = s.ej ∧
    (s.hear o).port = s.port ∧ (s.hear o).ctl = s.ctl ∧ (s.hear o).pins = s.pins ∧ (s.hear o).counters = s.counters ∧
    (s.hear o).pending = s.pending := by
  unfold State.hear; try dsimp only
  (repeat' split) <;> simp

@[simp] theorem setPeerTracking_frame (s : State) (a : Nat) (t : Bool) :
    (s.setPeerTracking a t).cfg = s.cfg ∧ (s.setPeerTracking a t).retention = s.retention ∧
    (s.setPeerTracking a t).pos = s.pos ∧ (s.setPeerTracking a t).gate = s.gate ∧
    (s.setPeerTracking a t).classifier = s.classifier ∧ (s.setPeerTracking a t).trk = s.trk ∧
    (s.setPeerTracking a t).bins = s.bins ∧ (s.setPeerTracking a t).ej = s.ej ∧
    (s.setPeerTracking a t).port = s.port ∧ (s.setPeerTracking a t).ctl = s.ctl ∧
    (s.setPeerTracking a t).pins = s.pins ∧ (s.setPeerTracking a t).counters = s.counters ∧
    (s.setPeerTracking a t).pending = s.pending := by
  unfold State.setPeerTracking; try dsimp only
  (repeat' split) <;> simp

@[simp] theorem answerRoll_frame (s : State) :
    (s.answerRoll).cfg = s.cfg ∧ (s.answerRoll).retention = s.retention ∧ (s.answerRoll).pos = s.pos ∧
    (s.answerRoll).gate = s.gate ∧ (s.answerRoll).classifier = s.classifier ∧ (s.answerRoll).trk = s.trk ∧
    (s.answerRoll).bins = s.bins ∧ (s.answerRoll).ej = s.ej ∧ (s.answerRoll).ctl = s.ctl ∧
    (s.answerRoll).pins = s.pins ∧ (s.answerRoll).pending = s.pending := by
  unfold State.answerRoll; try dsimp only
  (repeat' split) <;> simp

@[simp] theorem takeRoll_frame (s : State) (o : Nat) (p : List Byte) :
    (s.takeRoll o p).cfg = s.cfg ∧ (s.takeRoll o p).retention = s.retention ∧ (s.takeRoll o p).pos = s.pos ∧
    (s.takeRoll o p).gate = s.gate ∧ (s.takeRoll o p).classifier = s.classifier ∧ (s.takeRoll o p).trk = s.trk ∧
    (s.takeRoll o p).bins = s.bins ∧ (s.takeRoll o p).ej = s.ej ∧ (s.takeRoll o p).ctl = s.ctl ∧
    (s.takeRoll o p).pins = s.pins ∧ (s.takeRoll o p).pending = s.pending := by
  unfold State.takeRoll; try dsimp only
  (repeat' split) <;> simp

@[simp] theorem startRecall_frame (s : State) :
    (s.startRecall).cfg = s.cfg ∧ (s.startRecall).retention = s.retention ∧ (s.startRecall).pos = s.pos ∧ (s.startRecall).gate = s.gate ∧
    (s.startRecall).classifier = s.classifier ∧ (s.startRecall).trk = s.trk ∧ (s.startRecall).bins = s.bins ∧ (s.startRecall).ej = s.ej ∧
    (s.startRecall).ctl = s.ctl ∧ (s.startRecall).pins = s.pins ∧ (s.startRecall).pending = s.pending := by
  unfold State.startRecall; try dsimp only
  (repeat' split) <;> simp

@[simp] theorem binstateArrival_frame (s : State) (o : Nat) (p : List Byte) :
    (s.binstateArrival o p).cfg = s.cfg ∧ (s.binstateArrival o p).retention = s.retention ∧
    (s.binstateArrival o p).pos = s.pos ∧ (s.binstateArrival o p).gate = s.gate ∧
    (s.binstateArrival o p).classifier = s.classifier ∧ (s.binstateArrival o p).trk = s.trk ∧
    (s.binstateArrival o p).ej = s.ej ∧ (s.binstateArrival o p).ctl = s.ctl ∧ (s.binstateArrival o p).pins = s.pins ∧
    (s.binstateArrival o p).pending = s.pending := by
  unfold State.binstateArrival; try dsimp only
  (repeat' split) <;> simp

@[simp] theorem undelivered_frame (s : State) (f : Frame) :
    (s.undelivered f).cfg = s.cfg ∧ (s.undelivered f).retention = s.retention ∧ (s.undelivered f).pos = s.pos ∧
    (s.undelivered f).gate = s.gate ∧ (s.undelivered f).classifier = s.classifier ∧ (s.undelivered f).trk = s.trk ∧
    (s.undelivered f).ej = s.ej ∧ (s.undelivered f).ctl = s.ctl ∧ (s.undelivered f).pins = s.pins ∧
    (s.undelivered f).pending = s.pending := by
  unfold State.undelivered; try dsimp only
  (repeat' split) <;> simp

@[simp] theorem lineDrop_frame (s : State) :
    (s.lineDrop).cfg = s.cfg ∧ (s.lineDrop).retention = s.retention ∧ (s.lineDrop).pos = s.pos ∧
    (s.lineDrop).gate = s.gate ∧ (s.lineDrop).classifier = s.classifier ∧ (s.lineDrop).trk = s.trk ∧
    (s.lineDrop).bins = s.bins ∧ (s.lineDrop).ej = s.ej ∧ (s.lineDrop).port = s.port ∧ (s.lineDrop).ltu = s.ltu ∧
    (s.lineDrop).ctl = s.ctl ∧ (s.lineDrop).pins = s.pins ∧ (s.lineDrop).pending = s.pending := by
  unfold State.lineDrop; try dsimp only
  (repeat' split) <;> simp

@[simp] theorem receiverTo_frame (s : State) (r : RxState) :
    (s.receiverTo r).cfg = s.cfg ∧ (s.receiverTo r).retention = s.retention ∧ (s.receiverTo r).pos = s.pos ∧
    (s.receiverTo r).gate = s.gate ∧ (s.receiverTo r).classifier = s.classifier ∧ (s.receiverTo r).trk = s.trk ∧
    (s.receiverTo r).bins = s.bins ∧ (s.receiverTo r).ej = s.ej ∧ (s.receiverTo r).ltu = s.ltu ∧
    (s.receiverTo r).ctl = s.ctl ∧ (s.receiverTo r).pins = s.pins ∧ (s.receiverTo r).counters = s.counters ∧
    (s.receiverTo r).pending = s.pending := by
  unfold State.receiverTo; try dsimp only
  (repeat' split) <;> simp

@[simp] theorem discardTo_frame (s : State) (r : RxState) :
    (s.discardTo r).cfg = s.cfg ∧ (s.discardTo r).retention = s.retention ∧ (s.discardTo r).pos = s.pos ∧
    (s.discardTo r).gate = s.gate ∧ (s.discardTo r).classifier = s.classifier ∧ (s.discardTo r).trk = s.trk ∧
    (s.discardTo r).bins = s.bins ∧ (s.discardTo r).ej = s.ej ∧ (s.discardTo r).ltu = s.ltu ∧
    (s.discardTo r).ctl = s.ctl ∧ (s.discardTo r).pins = s.pins ∧ (s.discardTo r).pending = s.pending := by
  unfold State.discardTo; try dsimp only
  (repeat' split) <;> simp

@[simp] theorem enterLoss_frame (s : State) :
    (s.enterLoss).cfg = s.cfg ∧ (s.enterLoss).retention = s.retention ∧ (s.enterLoss).pos = s.pos ∧
    (s.enterLoss).gate = s.gate ∧ (s.enterLoss).classifier = s.classifier ∧ (s.enterLoss).trk = s.trk ∧
    (s.enterLoss).bins = s.bins ∧ (s.enterLoss).ej = s.ej ∧ (s.enterLoss).ltu = s.ltu ∧ (s.enterLoss).ctl = s.ctl ∧
    (s.enterLoss).pins = s.pins ∧ (s.enterLoss).pending = s.pending := by
  unfold State.enterLoss; try dsimp only
  (repeat' split) <;> simp

@[simp] theorem idleOne_frame (s : State) :
    (s.idleOne).cfg = s.cfg ∧ (s.idleOne).retention = s.retention ∧ (s.idleOne).pos = s.pos ∧
    (s.idleOne).gate = s.gate ∧ (s.idleOne).classifier = s.classifier ∧ (s.idleOne).trk = s.trk ∧
    (s.idleOne).bins = s.bins ∧ (s.idleOne).ej = s.ej ∧ (s.idleOne).ctl = s.ctl ∧ (s.idleOne).pins = s.pins ∧
    (s.idleOne).pending = s.pending := by
  unfold State.idleOne; try dsimp only
  (repeat' split) <;> simp

@[simp] theorem idleZero_frame (s : State) :
    (s.idleZero).cfg = s.cfg ∧ (s.idleZero).retention = s.retention ∧ (s.idleZero).pos = s.pos ∧
    (s.idleZero).gate = s.gate ∧ (s.idleZero).classifier = s.classifier ∧ (s.idleZero).trk = s.trk ∧
    (s.idleZero).bins = s.bins ∧ (s.idleZero).ej = s.ej ∧ (s.idleZero).ltu = s.ltu ∧ (s.idleZero).ctl = s.ctl ∧
    (s.idleZero).pins = s.pins ∧ (s.idleZero).counters = s.counters ∧ (s.idleZero).pending = s.pending := by
  unfold State.idleZero; try dsimp only
  (repeat' split) <;> simp

@[simp] theorem gatherBit_frame (s : State) (b : Bool) :
    (s.gatherBit b).cfg = s.cfg ∧ (s.gatherBit b).retention = s.retention ∧ (s.gatherBit b).pos = s.pos ∧
    (s.gatherBit b).gate = s.gate ∧ (s.gatherBit b).classifier = s.classifier ∧ (s.gatherBit b).trk = s.trk ∧
    (s.gatherBit b).bins = s.bins ∧ (s.gatherBit b).ej = s.ej ∧ (s.gatherBit b).ltu = s.ltu ∧
    (s.gatherBit b).ctl = s.ctl ∧ (s.gatherBit b).pins = s.pins ∧ (s.gatherBit b).pending = s.pending := by
  unfold State.gatherBit; try dsimp only
  (repeat' split) <;> simp

end Sys2Proof.Machine
end

