-- ==== Sys2Proof/Laws/Finish.lean ====
section
/-! SUPPORT. What the shared operations over the own queue, the arbiter and the end of an event leave inside the port, the
Loop Traffic Unit, the Bin Unit, the Mode Controller and the counters. -/

namespace Sys2Proof.Machine

/-- R163: arbitration leaves all but the queues and the fairness count. -/
theorem arbitrate_frame {u v : LoopTraffic} {f : Frame} (h : u.arbitrate = some (f, v)) :
    v.peers = u.peers ∧ v.joinRetry = u.joinRetry ∧ v.recallTimer = u.recallTimer := by
  unfold LoopTraffic.arbitrate at h
  (repeat' split at h) <;> simp_all <;> obtain ⟨-, rfl⟩ := h <;> simp

/-- R145: asking the arbiter touches only the transmitter. -/
@[simp] theorem askArbiter_line (s : State) :
    s.askArbiter.port.rx = s.port.rx ∧ s.askArbiter.port.idleRun = s.port.idleRun ∧
    s.askArbiter.port.violationRun = s.port.violationRun ∧ s.askArbiter.port.silence = s.port.silence ∧
    s.askArbiter.port.buffer = s.port.buffer ∧ s.askArbiter.port.bits = s.port.bits ∧
    s.askArbiter.port.lossTimer = s.port.lossTimer ∧ s.askArbiter.port.joinTimer = s.port.joinTimer ∧
    s.askArbiter.port.link = s.port.link ∧ s.askArbiter.port.relayDrive = s.port.relayDrive := by
  unfold State.askArbiter
  (repeat' split) <;> simp [State.beginSend]

@[simp] theorem askArbiter_peers (s : State) :
    s.askArbiter.ltu.peers = s.ltu.peers ∧ s.askArbiter.ltu.joinRetry = s.ltu.joinRetry ∧
    s.askArbiter.ltu.recallTimer = s.ltu.recallTimer := by
  unfold State.askArbiter
  split
  · split
    · simp
    · rename_i h; simpa [State.beginSend] using arbitrate_frame h
  · simp

@[simp] theorem enqueueOwn_line (s : State) (f : Frame) :
    (s.enqueueOwn f).port.rx = s.port.rx ∧ (s.enqueueOwn f).port.idleRun = s.port.idleRun ∧
    (s.enqueueOwn f).port.violationRun = s.port.violationRun ∧ (s.enqueueOwn f).port.silence = s.port.silence ∧
    (s.enqueueOwn f).port.buffer = s.port.buffer ∧ (s.enqueueOwn f).port.bits = s.port.bits ∧
    (s.enqueueOwn f).port.lossTimer = s.port.lossTimer ∧ (s.enqueueOwn f).port.joinTimer = s.port.joinTimer ∧
    (s.enqueueOwn f).port.link = s.port.link ∧ (s.enqueueOwn f).port.relayDrive = s.port.relayDrive := by
  unfold State.enqueueOwn
  (repeat' split) <;> simp

@[simp] theorem enqueueOwn_peers (s : State) (f : Frame) :
    (s.enqueueOwn f).ltu.peers = s.ltu.peers ∧ (s.enqueueOwn f).ltu.joinRetry = s.ltu.joinRetry ∧
    (s.enqueueOwn f).ltu.recallTimer = s.ltu.recallTimer := by
  unfold State.enqueueOwn
  (repeat' split) <;> simp

/-- R162: the own queue's only counter is the queue-drop counter. -/
theorem enqueueOwn_counter (s : State) (f : Frame) (k : Counter) (h : k ≠ .queueDrops) :
    (s.enqueueOwn f).counters.get k = s.counters.get k := by
  unfold State.enqueueOwn
  (repeat' split) <;> simp [State.count, h]

theorem enqueueOwn_counter_le (s : State) (f : Frame) (k : Counter) :
    s.counters.get k ≤ (s.enqueueOwn f).counters.get k := by
  unfold State.enqueueOwn
  (repeat' split) <;> simp [le_get_count]

@[simp] theorem requestBinstate_line (s : State) :
    s.requestBinstate.port.rx = s.port.rx ∧ s.requestBinstate.port.idleRun = s.port.idleRun ∧
    s.requestBinstate.port.violationRun = s.port.violationRun ∧ s.requestBinstate.port.silence = s.port.silence ∧
    s.requestBinstate.port.buffer = s.port.buffer ∧ s.requestBinstate.port.bits = s.port.bits ∧
    s.requestBinstate.port.lossTimer = s.port.lossTimer ∧ s.requestBinstate.port.joinTimer = s.port.joinTimer ∧
    s.requestBinstate.port.link = s.port.link ∧ s.requestBinstate.port.relayDrive = s.port.relayDrive := by
  simp [State.requestBinstate]

/-- R111: a request leaves the bins themselves, and restarts the period timer. -/
@[simp] theorem requestBinstate_bins (s : State) :
    s.requestBinstate.bins =
      { s.bins with asked := false, periodTimer := Timer.start Config.binstateMs } := by
  simp [State.requestBinstate]

@[simp] theorem requestBinstate_peers (s : State) :
    s.requestBinstate.ltu.peers = s.ltu.peers ∧ s.requestBinstate.ltu.joinRetry = s.ltu.joinRetry ∧
    s.requestBinstate.ltu.recallTimer = s.ltu.recallTimer := by
  simp [State.requestBinstate]

/-- The end of an event changes nothing in the receiver or the link. -/
@[simp] theorem finish_line (s : State) :
    s.finish.port.rx = s.port.rx ∧ s.finish.port.idleRun = s.port.idleRun ∧
    s.finish.port.violationRun = s.port.violationRun ∧ s.finish.port.silence = s.port.silence ∧
    s.finish.port.buffer = s.port.buffer ∧ s.finish.port.bits = s.port.bits ∧
    s.finish.port.lossTimer = s.port.lossTimer ∧ s.finish.port.joinTimer = s.port.joinTimer ∧
    s.finish.port.link = s.port.link ∧ s.finish.port.relayDrive = s.port.relayDrive := by
  unfold State.finish State.answerAsked
  (repeat' split) <;> simp

@[simp] theorem finish_peers (s : State) :
    s.finish.ltu.peers = s.ltu.peers ∧ s.finish.ltu.joinRetry = s.ltu.joinRetry ∧ s.finish.ltu.recallTimer = s.ltu.recallTimer := by
  unfold State.finish State.answerAsked
  (repeat' split) <;> simp

@[simp] theorem answerAsked_ctl (s : State) : s.answerAsked.ctl = s.ctl := by simp

/-- The end of an event changes nothing in the Mode Controller but the lamp. -/
@[simp] theorem finish_ctl (s : State) :
    s.finish.ctl.mode = s.ctl.mode ∧ s.finish.ctl.phase = s.ctl.phase ∧ s.finish.ctl.failures = s.ctl.failures ∧
    s.finish.ctl.retryTimer = s.ctl.retryTimer ∧ s.finish.ctl.heldMode = s.ctl.heldMode ∧
    s.finish.ctl.image = s.ctl.image ∧ s.finish.ctl.address = s.ctl.address ∧
    s.finish.ctl.haltCode = s.ctl.haltCode ∧ s.finish.ctl.keyTurned = s.ctl.keyTurned ∧
    s.finish.ctl.keyTimer = s.ctl.keyTimer ∧ s.finish.ctl.chainClosed = s.ctl.chainClosed ∧
    s.finish.ctl.chainTimer = s.ctl.chainTimer ∧ s.finish.ctl.clock = s.ctl.clock ∧
    s.finish.ctl.clockPart = s.ctl.clockPart ∧ s.finish.ctl.clockRunning = s.ctl.clockRunning ∧
    s.finish.ctl.statusTimer = s.ctl.statusTimer ∧ s.finish.ctl.flashPhase = s.ctl.flashPhase := by
  unfold State.finish State.showLamp
  split <;> simp

/-- No BINSTATE is asked for between events (log 5). -/
@[simp] theorem finish_asked (s : State) : s.finish.bins.asked = false := by
  unfold State.finish State.answerAsked
  (repeat' split) <;> simp_all

/-- The end of an event leaves all of the Bin Unit but the request and the period timer. -/
@[simp] theorem finish_bins (s : State) :
    s.finish.bins.recs = s.bins.recs ∧ s.finish.bins.present = s.bins.present ∧ s.finish.bins.full = s.bins.full ∧
    s.finish.bins.snapshot = s.bins.snapshot ∧ s.finish.bins.board = s.bins.board := by
  unfold State.finish State.answerAsked
  (repeat' split) <;> simp

theorem finish_counter (s : State) (k : Counter) (h : k ≠ .queueDrops) :
    s.finish.counters.get k = s.counters.get k := by
  unfold State.finish State.answerAsked State.requestBinstate
  (repeat' split) <;> simp [enqueueOwn_counter, h]

theorem finish_counter_le (s : State) (k : Counter) : s.counters.get k ≤ s.finish.counters.get k := by
  unfold State.finish State.answerAsked State.requestBinstate
  (repeat' split) <;> simp
  exact enqueueOwn_counter_le
    (s.setBins { s.bins with asked := false, periodTimer := Timer.start Config.binstateMs }) s.binstateFrame k

/-- An event that asks for no BINSTATE ends with the lamp alone. -/
theorem finish_quiet (s : State) (h : s.bins.asked = false) : s.finish = s.showLamp := by
  simp [State.finish, State.answerAsked, h]

/-- After every event the lamp shows the pattern of the state (R190). -/
theorem finish_lamp (s : State) : s.finish.ctl.lamp = s.finish.lampPattern := by
  unfold State.finish State.showLamp
  split
  · rename_i h; exact h.symm
  · simp [State.lampPattern, State.listening]

end Sys2Proof.Machine
end

