-- ==== Sys2Proof/Laws/Items.lean ====
section
/-! SUPPORT. What the shared operations on bin records, schedules and the item lists do, each said once. -/

namespace Sys2Proof.Machine

/-! ### Bin records -/

/-- R96: a write of one record reaches that record alone. -/
@[simp] theorem setBin_recs (s : State) (b : BinNo) (r : BinRecord) : (s.setBin b r).bins.recs = s.bins.recs.set b r := by
  unfold State.setBin; dsimp only; split <;> simp

/-- R111: a write asks for a BINSTATE where the change shows, and takes no request back. -/
@[simp] theorem setBin_asked (s : State) (b : BinNo) (r : BinRecord) :
    (s.setBin b r).bins.asked = (s.bins.asked || (s.bins.recs.get b).reportable r (s.binCfg b)) := by
  unfold State.setBin; dsimp only; split <;> simp

@[simp] theorem setBin_rest (s : State) (b : BinNo) (r : BinRecord) :
    (s.setBin b r).bins.snapshot = s.bins.snapshot ∧ (s.setBin b r).bins.present = s.bins.present ∧
    (s.setBin b r).bins.full = s.bins.full ∧ (s.setBin b r).bins.board = s.bins.board ∧
    (s.setBin b r).bins.periodTimer = s.bins.periodTimer ∧ (s.setBin b r).bins.between = s.bins.between := by
  unfold State.setBin; dsimp only; split <;> simp

/-- R109: retention memory follows a change of fill or of the unverified flag, and nothing else. -/
@[simp] theorem setBin_retention (s : State) (b : BinNo) (r : BinRecord) :
    (s.setBin b r).retention =
      if (s.bins.recs.get b).fill = r.fill ∧ (s.bins.recs.get b).unverified = r.unverified then s.retention
      else s.retention.writeBin b r := by
  unfold State.setBin; dsimp only; split <;> simp_all

/-- R102: a release lowers the bin's pending count, which holds at 0. -/
@[simp] theorem unreserve_recs (s : State) (b : BinNo) :
    (s.unreserve b).bins.recs =
      s.bins.recs.set b { s.bins.recs.get b with pending := (s.bins.recs.get b).pending - 1 } := by
  unfold State.unreserve
  dsimp only
  split
  · rename_i h
    apply Quad.ext_get
    intro c
    by_cases hc : c = b
    · subst hc; rw [Quad.get_set_same]; cases hr : s.bins.recs.get c; simp_all
    · simp [hc]
  · simp

@[simp] theorem unreserve_rest (s : State) (b : BinNo) :
    (s.unreserve b).retention = s.retention ∧ (s.unreserve b).bins.snapshot = s.bins.snapshot ∧
    (s.unreserve b).bins.present = s.bins.present ∧ (s.unreserve b).bins.full = s.bins.full ∧
    (s.unreserve b).bins.board = s.bins.board ∧ (s.unreserve b).bins.periodTimer = s.bins.periodTimer ∧
    (s.unreserve b).bins.between = s.bins.between := by
  unfold State.unreserve; dsimp only; split <;> simp

/-- R101: a reservation raises the bin's pending count. -/
@[simp] theorem reserve_recs (s : State) (b : BinNo) :
    (s.reserve b).bins.recs =
      s.bins.recs.set b { s.bins.recs.get b with pending := (s.bins.recs.get b).pending + 1 } := by
  simp [State.reserve]

/-! ### Cancellations -/

/-- Section 7.7: a cancelled entry releases its reservation. -/
@[simp] theorem cancelItem_recs (s : State) (b : BinNo) (r : PassReason) (it : SchedItem) :
    (s.cancelItem b r it).bins.recs =
      s.bins.recs.set b { s.bins.recs.get b with pending := (s.bins.recs.get b).pending - 1 } := by
  simp [State.cancelItem]

@[simp] theorem cancelItem_rest (s : State) (b : BinNo) (r : PassReason) (it : SchedItem) :
    (s.cancelItem b r it).retention = s.retention ∧ (s.cancelItem b r it).bins.snapshot = s.bins.snapshot ∧
    (s.cancelItem b r it).bins.between = s.bins.between := by
  simp [State.cancelItem]

/-- Section 7.7: a cancellation empties the one schedule, and leaves all else of the ejectors. -/
@[simp] theorem cancelSchedule_ej (s : State) (b : BinNo) (r : PassReason) :
    (s.cancelSchedule b r).ej = s.ej.set b { s.ej.get b with schedule := [] } := by
  unfold State.cancelSchedule
  rw [foldl_keeps State.ej _ (by simp)]
  simp [State.setEjector]

/-- Section 7.7: a cancellation touches no other bin, and of its own bin the pending count alone. -/
theorem cancelSchedule_recs (s : State) (b c : BinNo) (r : PassReason) :
    (c ≠ b → (s.cancelSchedule b r).bins.recs.get c = s.bins.recs.get c) ∧
    ((s.cancelSchedule b r).bins.recs.get c).state = (s.bins.recs.get c).state ∧
    ((s.cancelSchedule b r).bins.recs.get c).fill = (s.bins.recs.get c).fill ∧
    ((s.cancelSchedule b r).bins.recs.get c).unverified = (s.bins.recs.get c).unverified ∧
    ((s.cancelSchedule b r).bins.recs.get c).faultShown = (s.bins.recs.get c).faultShown := by
  unfold State.cancelSchedule
  refine ⟨fun h => ?_, ?_, ?_, ?_, ?_⟩
  · rw [foldl_keeps (fun t : State => t.bins.recs.get c) _ (by intro a x; simp [h])]; simp
  · rw [foldl_keeps (fun t : State => (t.bins.recs.get c).state) _ (by intro a x; by_cases h : c = b <;> simp [h])]; simp
  · rw [foldl_keeps (fun t : State => (t.bins.recs.get c).fill) _ (by intro a x; by_cases h : c = b <;> simp [h])]; simp
  · rw [foldl_keeps (fun t : State => (t.bins.recs.get c).unverified) _
      (by intro a x; by_cases h : c = b <;> simp [h])]; simp
  · rw [foldl_keeps (fun t : State => (t.bins.recs.get c).faultShown) _
      (by intro a x; by_cases h : c = b <;> simp [h])]; simp

@[simp] theorem cancelSchedule_rest (s : State) (b : BinNo) (r : PassReason) :
    (s.cancelSchedule b r).retention = s.retention ∧ (s.cancelSchedule b r).bins.snapshot = s.bins.snapshot ∧
    (s.cancelSchedule b r).bins.between = s.bins.between := by
  unfold State.cancelSchedule
  refine ⟨?_, ?_, ?_⟩
  · rw [foldl_keeps State.retention _ (by simp)]; simp
  · rw [foldl_keeps (fun t : State => t.bins.snapshot) _ (by simp)]; simp
  · rw [foldl_keeps (fun t : State => t.bins.between) _ (by simp)]; simp

/-- R130: an ejector that is not in FAULT enters it with its output off, its timers stopped and its schedule empty. -/
theorem enterFault_ej (s : State) (b : BinNo) (h : (s.ej.get b).state ≠ .fault) :
    (s.enterFault b).ej = s.ej.set b { s.ej.get b with
      state := .fault, shadow := false, pulse := none, recovery := none, schedule := [] } := by
  simp only [State.enterFault, h, if_false]
  simp only [showFault_frame, cancelSchedule_ej, State.setEjector, setEj_ej, Quad.get_set_same]
  cases b <;> rfl

/-- R130, R96: its bin shows the fault; no other bin changes. -/
theorem enterFault_recs (s : State) (b : BinNo) (h : (s.ej.get b).state ≠ .fault) :
    ((s.enterFault b).bins.recs.get b).faultShown = true ∧
    ∀ c, c ≠ b → (s.enterFault b).bins.recs.get c = s.bins.recs.get c := by
  simp only [State.enterFault, h, if_false]
  refine ⟨by simp [State.showFault], fun c hc => ?_⟩
  simp [State.showFault, hc, (cancelSchedule_recs _ b c _).1 hc]

/-! ### The take (R101, R104, R122) -/

/-- R104: where the command brings nothing, nothing comes between. -/
theorem takeBetween_nil (s : State) (h : s.bins.between = []) : s.takeBetween = s := by
  simp [State.takeBetween, h]

/-- R104: a request takes its own list of sensor events, in order. -/
theorem takeBetween_cons (s : State) (l : List BinEvent) (rest : List (List BinEvent)) (h : s.bins.between = l :: rest) :
    s.takeBetween = l.foldl State.binEvent (s.setBetween rest) := by
  simp [State.takeBetween, h]

/-- R101, R122: a refused request changes nothing more, and passes the item as FULL. -/
theorem take_refused (s : State) (n : Nat) (t : Ticket) (b : BinNo) (h : s.takeBetween.grants b = false) :
    s.take n t b = (s.takeBetween, .pass .full) := by
  simp [State.take, h]

/-- R101, R122: a granted request raises the bin's pending count, and the item is scheduled at its fire position. -/
theorem take_granted (s : State) (n : Nat) (t : Ticket) (b : BinNo) (h : s.takeBetween.grants b = true) :
    (s.take n t b).2 = .scheduled b (s.firePosition b t) ∧
    (s.take n t b).1.bins.recs = s.takeBetween.bins.recs.set b
      { s.takeBetween.bins.recs.get b with pending := (s.takeBetween.bins.recs.get b).pending + 1 } ∧
    (s.take n t b).1.ej = s.takeBetween.ej.set b { s.takeBetween.ej.get b with
      schedule := insertByDist (fun it => s.dist it.firePos) ⟨n, s.firePosition b t⟩ (s.takeBetween.ej.get b).schedule } := by
  simp [State.take, h, State.firePosition, State.binCfg, State.setEjector, State.dist]

/-! ### Lists in order of distance -/

@[simp] theorem mem_insertByDist {α : Type} (dist : α → Int) (x y : α) (l : List α) :
    y ∈ insertByDist dist x l ↔ y = x ∨ y ∈ l := by
  induction l with
  | nil => simp [insertByDist]
  | cons a t ih =>
    simp only [insertByDist]
    split
    · simp only [List.mem_cons, ih]
      constructor
      · rintro (h | h | h) <;> simp [h]
      · rintro (h | h | h) <;> simp [h]
    · simp

@[simp] theorem length_insertByDist {α : Type} (dist : α → Int) (x : α) (l : List α) :
    (insertByDist dist x l).length = l.length + 1 := by
  induction l with
  | nil => rfl
  | cons a t ih => simp only [insertByDist]; split <;> simp [ih]

/-! ### The merge -/

/-- R69: the keeper is a candidate, and no candidate is nearer. -/
theorem nearestEntry_spec (span lead : Nat) (rest : List ExpectEntry) (first : ExpectEntry) :
    nearestEntry span lead first rest ∈ first :: rest ∧ ∀ x ∈ first :: rest,
      (signedDiff span (nearestEntry span lead first rest).ticket.lead lead).natAbs ≤
        (signedDiff span x.ticket.lead lead).natAbs := by
  induction rest generalizing first with
  | nil => simp [nearestEntry]
  | cons a l ih =>
    simp only [nearestEntry, List.foldl_cons]
    split
    · rename_i h
      obtain ⟨h1, h2⟩ := ih a
      simp only [nearestEntry] at h1 h2
      refine ⟨List.mem_cons_of_mem _ h1, fun x hx => ?_⟩
      rcases List.mem_cons.1 hx with rfl | hx
      · have := h2 a (by simp); omega
      · exact h2 x hx
    · rename_i h
      obtain ⟨h1, h2⟩ := ih first
      simp only [nearestEntry] at h1 h2
      refine ⟨?_, fun x hx => ?_⟩
      · rcases List.mem_cons.1 h1 with h1 | h1
        · rw [h1]; simp
        · simp [h1]
      · rcases List.mem_cons.1 hx with rfl | hx
        · exact h2 x (by simp)
        · rcases List.mem_cons.1 hx with rfl | hx
          · have := h2 first (by simp); omega
          · exact h2 x (by simp [hx])

/-- R70: a merged list keeps to three ids. -/
theorem appendIds_length (own : TicketId) (l ids : List TicketId) (h : l.length ≤ 3) :
    (appendIds own l ids).1.length ≤ 3 := by
  unfold appendIds
  generalize hb : (l, false) = acc
  have ha : acc.1.length ≤ 3 := by subst hb; exact h
  clear hb h
  induction ids generalizing acc with
  | nil => simpa using ha
  | cons a t ih =>
    simp only [List.foldl_cons]
    apply ih
    split
    · exact ha
    · split
      · exact ha
      · simp only [List.length_append, List.length_singleton]; omega

/-! ### Counters -/

theorem bump16_min (n : Nat) (h : n ≤ 65535) : bump16 n = min 65535 (n + 1) := by
  unfold bump16
  rw [show Config.counterMax = 65535 from rfl]
  split <;> omega

/-- R187: `n` counted events raise a counter by `n`, holding at 65535. -/
theorem get_countMany (s : State) (k : Counter) (n : Nat) (h : s.counters.get k ≤ 65535) :
    (s.countMany k n).counters.get k = min 65535 (s.counters.get k + n) := by
  induction n generalizing s with
  | zero => simp only [State.countMany]; omega
  | succ n ih =>
    have h2 : (s.count k).counters.get k = min 65535 (s.counters.get k + 1) := by
      simp only [State.count, setCounters_counters, bump_same]
      exact bump16_min _ h
    simp only [State.countMany]
    rw [ih (s.count k) (by omega), h2]
    omega

end Sys2Proof.Machine
end

