-- ==== Sys2Proof/Laws/Ring.lean ====
section
/-! SUPPORT. The work on items reaches the loop through the own queue alone: the receiver, the link and the peer table are
as they were. -/

namespace Sys2Proof.Machine

@[simp] theorem sendRelease_ring (s : State) (t : Ticket) :
    (s.sendRelease t).port.rx = s.port.rx ∧ (s.sendRelease t).port.idleRun = s.port.idleRun ∧
    (s.sendRelease t).port.violationRun = s.port.violationRun ∧ (s.sendRelease t).port.silence = s.port.silence ∧
    (s.sendRelease t).port.buffer = s.port.buffer ∧ (s.sendRelease t).port.bits = s.port.bits ∧
    (s.sendRelease t).port.lossTimer = s.port.lossTimer ∧ (s.sendRelease t).port.joinTimer = s.port.joinTimer ∧
    (s.sendRelease t).port.link = s.port.link ∧ (s.sendRelease t).port.relayDrive = s.port.relayDrive ∧
    (s.sendRelease t).ltu.peers = s.ltu.peers ∧ (s.sendRelease t).ltu.joinRetry = s.ltu.joinRetry ∧
    (s.sendRelease t).ltu.recallTimer = s.ltu.recallTimer := by
  unfold State.sendRelease; try dsimp only
  (repeat' split) <;> simp

@[simp] theorem decideExit_ring (s : State) (n : Nat) :
    (s.decideExit n).port.rx = s.port.rx ∧ (s.decideExit n).port.idleRun = s.port.idleRun ∧
    (s.decideExit n).port.violationRun = s.port.violationRun ∧ (s.decideExit n).port.silence = s.port.silence ∧
    (s.decideExit n).port.buffer = s.port.buffer ∧ (s.decideExit n).port.bits = s.port.bits ∧
    (s.decideExit n).port.lossTimer = s.port.lossTimer ∧ (s.decideExit n).port.joinTimer = s.port.joinTimer ∧
    (s.decideExit n).port.link = s.port.link ∧ (s.decideExit n).port.relayDrive = s.port.relayDrive ∧
    (s.decideExit n).ltu.peers = s.ltu.peers ∧ (s.decideExit n).ltu.joinRetry = s.ltu.joinRetry ∧
    (s.decideExit n).ltu.recallTimer = s.ltu.recallTimer := by
  unfold State.decideExit; try dsimp only
  (repeat' split) <;> simp

@[simp] theorem requestPass_ring (s : State) (n : Nat) (r : PassReason) :
    (s.requestPass n r).port.rx = s.port.rx ∧ (s.requestPass n r).port.idleRun = s.port.idleRun ∧
    (s.requestPass n r).port.violationRun = s.port.violationRun ∧ (s.requestPass n r).port.silence = s.port.silence ∧
    (s.requestPass n r).port.buffer = s.port.buffer ∧ (s.requestPass n r).port.bits = s.port.bits ∧
    (s.requestPass n r).port.lossTimer = s.port.lossTimer ∧ (s.requestPass n r).port.joinTimer = s.port.joinTimer ∧
    (s.requestPass n r).port.link = s.port.link ∧ (s.requestPass n r).port.relayDrive = s.port.relayDrive ∧
    (s.requestPass n r).ltu.peers = s.ltu.peers ∧ (s.requestPass n r).ltu.joinRetry = s.ltu.joinRetry ∧
    (s.requestPass n r).ltu.recallTimer = s.ltu.recallTimer := by
  unfold State.requestPass; try dsimp only
  (repeat' split) <;> simp

@[simp] theorem requestMissed_ring (s : State) (n : Nat) :
    (s.requestMissed n).port.rx = s.port.rx ∧ (s.requestMissed n).port.idleRun = s.port.idleRun ∧
    (s.requestMissed n).port.violationRun = s.port.violationRun ∧ (s.requestMissed n).port.silence = s.port.silence ∧
    (s.requestMissed n).port.buffer = s.port.buffer ∧ (s.requestMissed n).port.bits = s.port.bits ∧
    (s.requestMissed n).port.lossTimer = s.port.lossTimer ∧ (s.requestMissed n).port.joinTimer = s.port.joinTimer ∧
    (s.requestMissed n).port.link = s.port.link ∧ (s.requestMissed n).port.relayDrive = s.port.relayDrive ∧
    (s.requestMissed n).ltu.peers = s.ltu.peers ∧ (s.requestMissed n).ltu.joinRetry = s.ltu.joinRetry ∧
    (s.requestMissed n).ltu.recallTimer = s.ltu.recallTimer := by
  unfold State.requestMissed; try dsimp only
  (repeat' split) <;> simp

@[simp] theorem cancelItem_ring (s : State) (b : BinNo) (r : PassReason) (it : SchedItem) :
    (s.cancelItem b r it).port.rx = s.port.rx ∧ (s.cancelItem b r it).port.idleRun = s.port.idleRun ∧
    (s.cancelItem b r it).port.violationRun = s.port.violationRun ∧
    (s.cancelItem b r it).port.silence = s.port.silence ∧ (s.cancelItem b r it).port.buffer = s.port.buffer ∧
    (s.cancelItem b r it).port.bits = s.port.bits ∧ (s.cancelItem b r it).port.lossTimer = s.port.lossTimer ∧
    (s.cancelItem b r it).port.joinTimer = s.port.joinTimer ∧ (s.cancelItem b r it).port.link = s.port.link ∧
    (s.cancelItem b r it).port.relayDrive = s.port.relayDrive ∧ (s.cancelItem b r it).ltu.peers = s.ltu.peers ∧
    (s.cancelItem b r it).ltu.joinRetry = s.ltu.joinRetry ∧ (s.cancelItem b r it).ltu.recallTimer = s.ltu.recallTimer := by
  unfold State.cancelItem; try dsimp only
  (repeat' split) <;> simp

@[simp] theorem cancelSchedule_ring (s : State) (b : BinNo) (r : PassReason) :
    (s.cancelSchedule b r).port.rx = s.port.rx ∧ (s.cancelSchedule b r).port.idleRun = s.port.idleRun ∧
    (s.cancelSchedule b r).port.violationRun = s.port.violationRun ∧
    (s.cancelSchedule b r).port.silence = s.port.silence ∧ (s.cancelSchedule b r).port.buffer = s.port.buffer ∧
    (s.cancelSchedule b r).port.bits = s.port.bits ∧ (s.cancelSchedule b r).port.lossTimer = s.port.lossTimer ∧
    (s.cancelSchedule b r).port.joinTimer = s.port.joinTimer ∧ (s.cancelSchedule b r).port.link = s.port.link ∧
    (s.cancelSchedule b r).port.relayDrive = s.port.relayDrive ∧ (s.cancelSchedule b r).ltu.peers = s.ltu.peers ∧
    (s.cancelSchedule b r).ltu.joinRetry = s.ltu.joinRetry ∧ (s.cancelSchedule b r).ltu.recallTimer = s.ltu.recallTimer := by
  unfold State.cancelSchedule; try dsimp only
  refine ⟨?_, ?_, ?_, ?_, ?_, ?_, ?_, ?_, ?_, ?_, ?_, ?_, ?_⟩
  · rw [foldl_keeps (fun t : State => t.port.rx) _ (by simp)]; simp
  · rw [foldl_keeps (fun t : State => t.port.idleRun) _ (by simp)]; simp
  · rw [foldl_keeps (fun t : State => t.port.violationRun) _ (by simp)]; simp
  · rw [foldl_keeps (fun t : State => t.port.silence) _ (by simp)]; simp
  · rw [foldl_keeps (fun t : State => t.port.buffer) _ (by simp)]; simp
  · rw [foldl_keeps (fun t : State => t.port.bits) _ (by simp)]; simp
  · rw [foldl_keeps (fun t : State => t.port.lossTimer) _ (by simp)]; simp
  · rw [foldl_keeps (fun t : State => t.port.joinTimer) _ (by simp)]; simp
  · rw [foldl_keeps (fun t : State => t.port.link) _ (by simp)]; simp
  · rw [foldl_keeps (fun t : State => t.port.relayDrive) _ (by simp)]; simp
  · rw [foldl_keeps (fun t : State => t.ltu.peers) _ (by simp)]; simp
  · rw [foldl_keeps (fun t : State => t.ltu.joinRetry) _ (by simp)]; simp
  · rw [foldl_keeps (fun t : State => t.ltu.recallTimer) _ (by simp)]; simp

@[simp] theorem cancelAll_ring (s : State) (r : PassReason) :
    (s.cancelAll r).port.rx = s.port.rx ∧ (s.cancelAll r).port.idleRun = s.port.idleRun ∧
    (s.cancelAll r).port.violationRun = s.port.violationRun ∧ (s.cancelAll r).port.silence = s.port.silence ∧
    (s.cancelAll r).port.buffer = s.port.buffer ∧ (s.cancelAll r).port.bits = s.port.bits ∧
    (s.cancelAll r).port.lossTimer = s.port.lossTimer ∧ (s.cancelAll r).port.joinTimer = s.port.joinTimer ∧
    (s.cancelAll r).port.link = s.port.link ∧ (s.cancelAll r).port.relayDrive = s.port.relayDrive ∧
    (s.cancelAll r).ltu.peers = s.ltu.peers ∧ (s.cancelAll r).ltu.joinRetry = s.ltu.joinRetry ∧
    (s.cancelAll r).ltu.recallTimer = s.ltu.recallTimer := by
  simp [State.cancelAll, allBins]

@[simp] theorem enterFault_ring (s : State) (b : BinNo) :
    (s.enterFault b).port.rx = s.port.rx ∧ (s.enterFault b).port.idleRun = s.port.idleRun ∧
    (s.enterFault b).port.violationRun = s.port.violationRun ∧ (s.enterFault b).port.silence = s.port.silence ∧
    (s.enterFault b).port.buffer = s.port.buffer ∧ (s.enterFault b).port.bits = s.port.bits ∧
    (s.enterFault b).port.lossTimer = s.port.lossTimer ∧ (s.enterFault b).port.joinTimer = s.port.joinTimer ∧
    (s.enterFault b).port.link = s.port.link ∧ (s.enterFault b).port.relayDrive = s.port.relayDrive ∧
    (s.enterFault b).ltu.peers = s.ltu.peers ∧ (s.enterFault b).ltu.joinRetry = s.ltu.joinRetry ∧
    (s.enterFault b).ltu.recallTimer = s.ltu.recallTimer := by
  unfold State.enterFault; try dsimp only
  (repeat' split) <;> simp

@[simp] theorem enterService_ring (s : State) :
    (s.enterService).port.rx = s.port.rx ∧ (s.enterService).port.idleRun = s.port.idleRun ∧
    (s.enterService).port.violationRun = s.port.violationRun ∧ (s.enterService).port.silence = s.port.silence ∧
    (s.enterService).port.buffer = s.port.buffer ∧ (s.enterService).port.bits = s.port.bits ∧
    (s.enterService).port.lossTimer = s.port.lossTimer ∧ (s.enterService).port.joinTimer = s.port.joinTimer ∧
    (s.enterService).port.link = s.port.link ∧ (s.enterService).port.relayDrive = s.port.relayDrive ∧
    (s.enterService).ltu.peers = s.ltu.peers ∧ (s.enterService).ltu.joinRetry = s.ltu.joinRetry ∧
    (s.enterService).ltu.recallTimer = s.ltu.recallTimer := by
  unfold State.enterService; try dsimp only
  (repeat' split) <;> simp

@[simp] theorem enterSafe_ring (s : State) :
    (s.enterSafe).port.rx = s.port.rx ∧ (s.enterSafe).port.idleRun = s.port.idleRun ∧
    (s.enterSafe).port.violationRun = s.port.violationRun ∧ (s.enterSafe).port.silence = s.port.silence ∧
    (s.enterSafe).port.buffer = s.port.buffer ∧ (s.enterSafe).port.bits = s.port.bits ∧
    (s.enterSafe).port.lossTimer = s.port.lossTimer ∧ (s.enterSafe).port.joinTimer = s.port.joinTimer ∧
    (s.enterSafe).port.link = s.port.link ∧ (s.enterSafe).port.relayDrive = s.port.relayDrive ∧
    (s.enterSafe).ltu.peers = s.ltu.peers ∧ (s.enterSafe).ltu.joinRetry = s.ltu.joinRetry ∧
    (s.enterSafe).ltu.recallTimer = s.ltu.recallTimer := by
  unfold State.enterSafe; try dsimp only
  (repeat' split) <;> simp

end Sys2Proof.Machine
end

