-- ==== Sys2Proof/Laws/Checks.lean ====
section
/-! SUPPORT. What the small functions behind the checks and the lists can do: the peer table's places, repeats in a list,
the lists over the bin positions, the gate's closings and notices, the search for a serial, and one entry's withdrawal. -/

namespace Sys2Proof.Machine

theorem mem_allBins (b : BinNo) : b ∈ allBins := by cases b <;> simp [allBins]

/-- A check over the configured positions. -/
theorem configuredBins_all (c : Settings) (p : BinNo → Bool) :
    c.configuredBins.all p = true ↔ ∀ b, (c.bins.get b).configured = true → p b = true := by
  simp only [Settings.configuredBins, List.all_eq_true, List.mem_filter, mem_allBins, true_and]

theorem noRepeats_iff (l : List Nat) : noRepeats l = true ↔ l.Nodup := by
  induction l with
  | nil => simp [noRepeats]
  | cons a as ih => simp [noRepeats, ih]

/-- R166: an entry is put into the table before the first entry it comes before. -/
theorem insertPeer_place (x : PeerEntry) (l : List PeerEntry) :
    ∃ before after, l = before ++ after ∧ insertPeer x l = before ++ x :: after ∧
      (∀ y ∈ before, x.before y = false) ∧ ∀ y, after.head? = some y → x.before y = true := by
  induction l with
  | nil => exact ⟨[], [], rfl, rfl, by simp, by simp⟩
  | cons y ys ih =>
    unfold insertPeer
    cases h : x.before y with
    | true => exact ⟨[], y :: ys, rfl, by simp, by simp, by simpa using h⟩
    | false =>
      obtain ⟨before, after, hl, hi, hb, ha⟩ := ih
      exact ⟨y :: before, after, by simp [hl], by simp [hi], by simpa using ⟨h, hb⟩, ha⟩

theorem mem_insertPeer (x y : PeerEntry) (l : List PeerEntry) : y ∈ insertPeer x l ↔ y = x ∨ y ∈ l := by
  obtain ⟨before, after, hl, hi, -, -⟩ := insertPeer_place x l
  rw [hi, hl]
  simp only [List.mem_append, List.mem_cons]
  exact or_left_comm

/-- R169: the search begins after the own entry. -/
theorem nextPeer_of_own (s : State) (before after : List PeerEntry) (own : PeerEntry)
    (hl : s.ltu.peers = before ++ own :: after) (ho : own.address = s.ctl.address)
    (hb : ∀ x ∈ before, x.address ≠ s.ctl.address) : s.nextPeer = after.find? (fun p => p.tracking) := by
  unfold State.nextPeer
  rw [hl, List.dropWhile_append_of_pos (by intro a ha; simp [hb a ha])]
  simp [ho]

/-- R31: a detection that closes joins the queue's end. -/
theorem closing_short (s : State) (d : Detection) (after : GateState) (h : s.gate.completing.length < 4) :
    s.closing d after =
      s.setGate { s.gate with state := after, detection := none, completing := s.gate.completing ++ [d] } := by
  have h4 : ¬ Config.completingMax ≤ s.gate.completing.length := by simp only [Config.completingMax]; omega
  simp [State.closing, h4, State.setGate]

/-- R62: the abandonment notices take their leads out of the open-detection link and touch nothing else. -/
theorem releaseLinks (leads : List Nat) (s : State) :
    leads.foldl State.releaseLink s =
      s.setTrk { s.trk with link := leads.foldl (fun l lead => l.erase lead) s.trk.link } := by
  induction leads generalizing s with
  | nil => rfl
  | cons a as ih => rw [List.foldl_cons, ih]; rfl

/-- R53: the id is in one of the lists. -/
theorem holdsId_iff (u : TrackingUnit) (i : TicketId) :
    u.holdsId i = true ↔ (∃ e ∈ u.expect, e.ticket.id = i) ∨ ∃ e ∈ u.transit, e.ticket.id = i := by
  simp [TrackingUnit.holdsId]

/-- R53: the serial found is the first of those tried whose id is not held. -/
theorem freeSerial_first (u : TrackingUnit) (address fuel n : Nat) :
    ∃ k, k ≤ fuel ∧ freeSerial u address fuel n = (if k = 0 then n else (n + k) % 4096) ∧
      (∀ j, j < k → u.holdsId ⟨address, if j = 0 then n else (n + j) % 4096⟩ = true) ∧
      (k < fuel → u.holdsId ⟨address, freeSerial u address fuel n⟩ = false) := by
  induction fuel generalizing n with
  | zero => exact ⟨0, by simp, by simp [freeSerial], by simp, by simp⟩
  | succ f ih =>
    unfold freeSerial
    split
    · rename_i h
      obtain ⟨k, hk, hv, hheld, hfree⟩ := ih ((n + 1) % 4096)
      refine ⟨k + 1, by omega, ?_, ?_, fun hlt => hfree (by omega)⟩
      · rw [hv]; split <;> simp <;> omega
      · intro j hj
        cases j with
        | zero => simpa using h
        | succ j =>
          have e : (if j = 0 then (n + 1) % 4096 else ((n + 1) % 4096 + j) % 4096) = (n + (j + 1)) % 4096 := by
            split <;> omega
          have hj' := hheld j (by omega)
          rw [e] at hj'
          exact hj'
    · rename_i h
      exact ⟨0, by omega, by simp, by simp, fun _ => by simpa using h⟩

/-- R92: what the withdrawal or detach of one entry does to an ejector and a bin. -/
theorem withdraw_spec (s : State) (e : TransitEntry) (b : BinNo) :
    (s.withdraw e).ej.get b = { s.ej.get b with schedule := ((s.withdraw e).ej.get b).schedule } ∧
    (s.withdraw e).bins.recs.get b = { s.bins.recs.get b with
      pending := (s.bins.recs.get b).pending - (if e.state.names = some b then 1 else 0) } ∧
    ∀ it, it ∈ ((s.withdraw e).ej.get b).schedule ↔
      it ∈ (s.ej.get b).schedule ∧ ∀ fp, e.state = .scheduled b fp → it.ref ≠ e.ref := by
  unfold State.withdraw
  cases h : e.state with
  | pass r => simp [EntryState.names]
  | scheduled c fp =>
    by_cases hc : c = b
    · subst hc; simp [State.setEjector, EntryState.names]
    · simp [State.setEjector, EntryState.names, hc, Ne.symm hc]
  | fired c fp d =>
    by_cases hc : c = b
    · subst hc; cases d <;> simp [EntryState.names]
    · cases d <;> simp [EntryState.names, hc, Ne.symm hc]

/-- The fold of R55: the largest of `a` and the list. -/
theorem foldl_max_spec (l : List Nat) (a : Nat) :
    a ≤ l.foldl max a ∧ (∀ x ∈ l, x ≤ l.foldl max a) ∧ (l.foldl max a = a ∨ l.foldl max a ∈ l) := by
  induction l generalizing a with
  | nil => simp
  | cons y ys ih =>
    obtain ⟨h1, h2, h3⟩ := ih (max a y)
    simp only [List.foldl_cons, List.mem_cons]
    refine ⟨by omega, ?_, ?_⟩
    · rintro x (rfl | hx)
      · omega
      · exact h2 x hx
    · rcases h3 with h3 | h3
      · omega
      · exact Or.inr (Or.inr h3)

end Sys2Proof.Machine
end

