-- ==== Sys2Proof/Laws/Elapse.lean ====
section
/-! SUPPORT. What passing time leaves inside each block, and what it does to each timer (log 2). -/

namespace Sys2Proof.Machine

@[simp] theorem elapse_running (s : State) (dt : Nat) : (s.elapse dt).running = s.running := rfl
@[simp] theorem elapse_listening (s : State) (dt : Nat) : (s.elapse dt).listening = s.listening := rfl
@[simp] theorem elapse_binCfg (s : State) (dt : Nat) (b : BinNo) : (s.elapse dt).binCfg b = s.binCfg b := rfl
@[simp] theorem elapse_reads (s : State) (dt : Nat) (b : BinNo) (k : BinSensor) :
    (s.elapse dt).reads b k = s.reads b k := rfl
@[simp] theorem elapse_peer (s : State) (dt a : Nat) : (s.elapse dt).peer a = s.peer a := rfl
@[simp] theorem elapse_entry (s : State) (dt n : Nat) : (s.elapse dt).entry n = s.entry n := rfl
@[simp] theorem elapse_watchdogStart (s : State) (dt : Nat) : (s.elapse dt).watchdogStart = s.watchdogStart := rfl

/-- The Position Unit, but for its clock and its two timers. -/
@[simp] theorem elapse_pos (s : State) (dt : Nat) :
    (s.elapse dt).pos.acc = s.pos.acc ∧ (s.elapse dt).pos.slotPulses = s.pos.slotPulses ∧
    (s.elapse dt).pos.cur = s.pos.cur ∧ (s.elapse dt).pos.pend = s.pos.pend ∧ (s.elapse dt).pos.slot = s.pos.slot ∧
    (s.elapse dt).pos.step = s.pos.step ∧ (s.elapse dt).pos.overrun = s.pos.overrun ∧
    (s.elapse dt).pos.cond = s.pos.cond ∧ (s.elapse dt).pos.seamFlag = s.pos.seamFlag ∧
    (s.elapse dt).pos.slipFlag = s.pos.slipFlag ∧ (s.elapse dt).pos.missed = s.pos.missed ∧
    (s.elapse dt).pos.good = s.pos.good ∧ (s.elapse dt).pos.period = s.pos.period ∧
    (s.elapse dt).pos.trimSum = s.pos.trimSum ∧ (s.elapse dt).pos.trimCount = s.pos.trimCount ∧
    (s.elapse dt).pos.trimOpen = s.pos.trimOpen ∧ (s.elapse dt).pos.synthesised = s.pos.synthesised ∧
    (s.elapse dt).pos.qual = s.pos.qual ∧ (s.elapse dt).pos.pulseSeen = s.pos.pulseSeen := by
  unfold State.elapse PositionUnit.elapse
  cases s.running <;> simp

/-- What the Position Unit computes from the counts alone. -/
@[simp] theorem elapse_pos_values (s : State) (dt : Nat) :
    (s.elapse dt).pos.stepLength = s.pos.stepLength ∧ (s.elapse dt).pos.elapsed = s.pos.elapsed ∧
    (s.elapse dt).pos.slips = s.pos.slips ∧ (s.elapse dt).pos.gatePos = s.pos.gatePos := by
  have he : (s.elapse dt).pos.elapsed = s.pos.elapsed := by simp [PositionUnit.elapsed]
  refine ⟨by simp [PositionUnit.stepLength, PositionUnit.stepNumber], he, ?_, by simp [PositionUnit.gatePos]⟩
  unfold PositionUnit.slips
  rw [he]

/-- The watchdog and the interval, while the station runs and the belt-run line is on. -/
theorem elapse_pos_timers (s : State) (dt : Nat) (h : s.running = true) (hb : s.pins.beltRun = true) :
    (s.elapse dt).pos.watchdog = Timer.elapse dt s.pos.watchdog ∧
    (s.elapse dt).pos.stepTimer = Timer.elapse dt s.pos.stepTimer := by
  simp [State.elapse, PositionUnit.elapse, h, hb]

/-- The time since the last boundary, while the station runs. -/
theorem elapse_since (s : State) (dt : Nat) (h : s.running = true) :
    (s.elapse dt).pos.sinceBoundary =
      s.pos.sinceBoundary.map (fun t => min (t + dt) (Config.periodMax * 1000 + 999)) := by
  simp [State.elapse, PositionUnit.elapse, h]

@[simp] theorem elapse_pos_isSome (s : State) (dt : Nat) :
    (s.elapse dt).pos.watchdog.isSome = s.pos.watchdog.isSome := by
  unfold State.elapse PositionUnit.elapse Timer.elapse
  cases s.running <;> cases s.pins.beltRun <;> simp

/-- The Gate Unit, but for its window timer. -/
@[simp] theorem elapse_gate (s : State) (dt : Nat) :
    (s.elapse dt).gate.beams = s.gate.beams ∧ (s.elapse dt).gate.state = s.gate.state ∧
    (s.elapse dt).gate.detection = s.gate.detection ∧ (s.elapse dt).gate.completing = s.gate.completing ∧
    (s.elapse dt).gate.windowCount = s.gate.windowCount ∧ (s.elapse dt).gate.windowClear = s.gate.windowClear ∧
    (s.elapse dt).gate.baseline = s.gate.baseline ∧ (s.elapse dt).gate.baseSum = s.gate.baseSum ∧
    (s.elapse dt).gate.tally = s.gate.tally ∧ (s.elapse dt).gate.lowRun = s.gate.lowRun ∧
    (s.elapse dt).gate.goodRun = s.gate.goodRun ∧ (s.elapse dt).gate.coilFault = s.gate.coilFault ∧
    (s.elapse dt).gate.overRange = s.gate.overRange := by
  unfold State.elapse
  cases s.running <;> simp

theorem elapse_window (s : State) (dt : Nat) (h : s.running = true) :
    (s.elapse dt).gate.windowTimer = Timer.elapse dt s.gate.windowTimer := by
  simp [State.elapse, h]

/-- The Tracking Unit, but for the foreign attention pulse. -/
@[simp] theorem elapse_trk (s : State) (dt : Nat) :
    (s.elapse dt).trk.expect = s.trk.expect ∧ (s.elapse dt).trk.link = s.trk.link ∧
    (s.elapse dt).trk.serial = s.trk.serial ∧ (s.elapse dt).trk.transit = s.trk.transit ∧
    (s.elapse dt).trk.refCount = s.trk.refCount ∧
    (s.elapse dt).trk.foreignPulse = Timer.elapse dt s.trk.foreignPulse := ⟨rfl, rfl, rfl, rfl, rfl, rfl⟩

/-- The Bin Unit, but for its timers. -/
@[simp] theorem elapse_bins (s : State) (dt : Nat) :
    (s.elapse dt).bins.recs = s.bins.recs ∧ (s.elapse dt).bins.snapshot = s.bins.snapshot ∧
    (s.elapse dt).bins.asked = s.bins.asked ∧ (s.elapse dt).bins.board = s.bins.board ∧
    (s.elapse dt).bins.between = s.bins.between ∧
    (s.elapse dt).bins.periodTimer = Timer.elapse dt s.bins.periodTimer := ⟨rfl, rfl, rfl, rfl, rfl, rfl⟩

@[simp] theorem elapse_sensors (s : State) (dt : Nat) (b : BinNo) :
    (s.elapse dt).bins.present.get b = (s.bins.present.get b).elapse dt ∧
    (s.elapse dt).bins.full.get b = (s.bins.full.get b).elapse dt := by
  simp [State.elapse, BinUnit.elapse]

@[simp] theorem sensor_elapse (x : Sensor) (dt : Nat) :
    (x.elapse dt).settled = x.settled ∧ (x.elapse dt).timer = Timer.elapse dt x.timer := ⟨rfl, rfl⟩

@[simp] theorem elapse_fullActive (s : State) (dt : Nat) (b : BinNo) :
    (s.elapse dt).fullActive b = s.fullActive b := by simp [State.fullActive]

/-- One ejector, but for its two timers. -/
@[simp] theorem elapse_ejector (s : State) (dt : Nat) (b : BinNo) :
    ((s.elapse dt).ej.get b).state = (s.ej.get b).state ∧ ((s.elapse dt).ej.get b).shadow = (s.ej.get b).shadow ∧
    ((s.elapse dt).ej.get b).misses = (s.ej.get b).misses ∧
    ((s.elapse dt).ej.get b).schedule = (s.ej.get b).schedule ∧ ((s.elapse dt).ej.get b).watch = (s.ej.get b).watch ∧
    ((s.elapse dt).ej.get b).pulse = Timer.elapse dt (s.ej.get b).pulse ∧
    ((s.elapse dt).ej.get b).recovery = Timer.elapse dt (s.ej.get b).recovery := by
  simp [State.elapse, Ejector.elapse]

/-- The Loop Port, but for its timers and the silence time. -/
@[simp] theorem elapse_port (s : State) (dt : Nat) :
    (s.elapse dt).port.rx = s.port.rx ∧ (s.elapse dt).port.idleRun = s.port.idleRun ∧
    (s.elapse dt).port.violationRun = s.port.violationRun ∧ (s.elapse dt).port.buffer = s.port.buffer ∧
    (s.elapse dt).port.bits = s.port.bits ∧ (s.elapse dt).port.link = s.port.link ∧
    (s.elapse dt).port.relayDrive = s.port.relayDrive ∧ (s.elapse dt).port.tx = s.port.tx := by
  unfold State.elapse LoopPort.elapse
  cases s.listening <;> simp

@[simp] theorem elapse_pairOpen (s : State) (dt : Nat) : (s.elapse dt).port.pairOpen = s.port.pairOpen := by
  simp [LoopPort.pairOpen]

theorem elapse_port_timers (s : State) (dt : Nat) (h : s.listening = true) :
    (s.elapse dt).port.lossTimer = Timer.elapse dt s.port.lossTimer ∧
    (s.elapse dt).port.joinTimer = Timer.elapse dt s.port.joinTimer ∧
    (s.elapse dt).port.txTimer = Timer.elapse dt s.port.txTimer ∧
    (s.elapse dt).port.silence = min (s.port.silence + dt) (Config.silenceCells * Config.cellNs) := by
  simp [State.elapse, LoopPort.elapse, h]

@[simp] theorem elapse_lossTimer_none (s : State) (dt : Nat) :
    (s.elapse dt).port.lossTimer = none ↔ s.port.lossTimer = none := by
  unfold State.elapse LoopPort.elapse Timer.elapse
  cases s.listening <;> simp

/-- The Loop Traffic Unit, but for the recall timer. -/
@[simp] theorem elapse_ltu (s : State) (dt : Nat) :
    (s.elapse dt).ltu.transitQueue = s.ltu.transitQueue ∧ (s.elapse dt).ltu.ownQueue = s.ltu.ownQueue ∧
    (s.elapse dt).ltu.fairness = s.ltu.fairness ∧ (s.elapse dt).ltu.peers = s.ltu.peers ∧
    (s.elapse dt).ltu.joinRetry = s.ltu.joinRetry ∧ (s.elapse dt).ltu.recallTimer = Timer.elapse dt s.ltu.recallTimer :=
  ⟨rfl, rfl, rfl, rfl, rfl, rfl⟩

/-- The timers of the Mode Controller. -/
@[simp] theorem elapse_ctl_timers (s : State) (dt : Nat) :
    (s.elapse dt).ctl.retryTimer = Timer.elapse dt s.ctl.retryTimer ∧
    (s.elapse dt).ctl.keyTimer = Timer.elapse dt s.ctl.keyTimer ∧
    (s.elapse dt).ctl.chainTimer = Timer.elapse dt s.ctl.chainTimer ∧
    (s.elapse dt).ctl.statusTimer = Timer.elapse dt s.ctl.statusTimer := ⟨rfl, rfl, rfl, rfl⟩

/-- The lamp's pattern does not depend on time. -/
@[simp] theorem elapse_lampPattern (s : State) (dt : Nat) : (s.elapse dt).lampPattern = s.lampPattern := by
  rcases h : s.ctl.mode <;> simp [State.lampPattern, h]
  rfl

/-- No timer starts by itself. -/
@[simp] theorem timer_elapse_isSome (dt : Nat) (t : Timer) : (Timer.elapse dt t).isSome = t.isSome := by
  cases t <;> rfl

@[simp] theorem timer_elapse_none (dt : Nat) : Timer.elapse dt none = none := rfl

end Sys2Proof.Machine
end

