-- ==== Sys2Proof/Laws/Entries.lean ====
section
/-! SUPPORT. What each operation on the Transit List does to the entry a reference names, each said once: the requests of the
Ejection Unit, the exit decision and a cancellation; the free reference; and the place in a list ordered by distance. -/

namespace Sys2Proof.Machine

@[simp] theorem setTransit_transit (s : State) (l : List TransitEntry) : (s.setTransit l).trk.transit = l := rfl

/-! ### The entry of a reference (R78) -/

theorem entry_ref (s : State) (n : Nat) (e : TransitEntry) (h : s.entry n = some e) : e.ref = n := by
  have := List.find?_some h
  simpa using this

/-- A list operation that keeps each entry's reference changes the entry that is found, and no other. -/
theorem find_map_ref (l : List TransitEntry) (f : TransitEntry → TransitEntry) (n : Nat) (hf : ∀ e, (f e).ref = e.ref) :
    (l.map f).find? (fun e => e.ref == n) = (l.find? (fun e => e.ref == n)).map f := by
  induction l with
  | nil => rfl
  | cons a t ih =>
    simp only [List.map_cons, List.find?_cons, hf, ih]
    split <;> rfl

/-- R78: a request changes the entry its reference names. -/
theorem entry_updateEntry (s : State) (n r : Nat) (f : TransitEntry → TransitEntry) (hf : ∀ e, (f e).ref = e.ref) :
    (s.updateEntry n f).entry r = (s.entry r).map (fun e => if e.ref = n then f e else e) := by
  unfold State.updateEntry State.entry
  rw [setTransit_transit, find_map_ref]
  intro e; split
  · exact hf e
  · rfl

/-- A removed reference names no entry, and every other names the entry it named. -/
@[simp] theorem entry_removeEntry (s : State) (n r : Nat) :
    (s.removeEntry n).entry r = if r = n then none else s.entry r := by
  unfold State.removeEntry State.entry
  rw [setTransit_transit]
  generalize s.trk.transit = l
  induction l with
  | nil => simp
  | cons a t ih =>
    by_cases ha : a.ref = n
    · simp only [List.filter_cons, ha, bne_self_eq_false, Bool.false_eq_true, if_false, ih, List.find?_cons]
      by_cases hr : r = n
      · simp [hr]
      · have hb : (n == r) = false := by simpa using Ne.symm hr
        simp [hr, hb]
    · have hb : (a.ref != n) = true := by simpa using ha
      simp only [List.filter_cons, hb, if_true, List.find?_cons, ih]
      by_cases hr : r = n
      · subst hr
        have : (a.ref == r) = false := by simpa using ha
        simp [this]
      · simp [hr]

@[simp] theorem sendRelease_transit (s : State) (t : Ticket) : (s.sendRelease t).trk.transit = s.trk.transit := by
  unfold State.sendRelease
  split
  · simp
  · dsimp only; split <;> simp

@[simp] theorem entry_sendRelease (s : State) (t : Ticket) (r : Nat) : (s.sendRelease t).entry r = s.entry r := by
  simp [State.entry]

@[simp] theorem entry_count (s : State) (k : Counter) (r : Nat) : (s.count k).entry r = s.entry r := by simp [State.entry]

@[simp] theorem entry_setBin (s : State) (b : BinNo) (x : BinRecord) (r : Nat) : (s.setBin b x).entry r = s.entry r := by
  simp [State.entry]

@[simp] theorem entry_unreserve (s : State) (b : BinNo) (r : Nat) : (s.unreserve b).entry r = s.entry r := by
  simp [State.entry]

@[simp] theorem entry_setEjector (s : State) (b : BinNo) (x : Ejector) (r : Nat) :
    (s.setEjector b x).entry r = s.entry r := rfl

/-- R87 to R89: the entry named is gone if it is in PASS with its exit extent crossed; every other entry stays. -/
theorem entry_decideExit (s : State) (n r : Nat) :
    (s.decideExit n).entry r =
      if r = n ∧ ∃ e, s.entry n = some e ∧ e.state.isPass = true ∧ e.exitDone = true then none else s.entry r := by
  unfold State.decideExit
  cases he : s.entry n with
  | none => simp
  | some e =>
    cases hs : e.state
    · cases hd : e.exitDone
      · simp [hs, hd]
      · cases hb : e.exitBlocked <;> simp [hs, hd, hb, EntryState.isPass]
    · simp [hs, EntryState.isPass]
    · simp [hs, EntryState.isPass]

/-! ### Cancellation (section 7.7) -/

/-- Section 7.7, R87: a cancelled entry in SCHEDULED passes with the cause's reason, or is decided and gone. -/
theorem entry_cancelItem_same (s : State) (b c : BinNo) (r : PassReason) (it : SchedItem) (e : TransitEntry) (fp : Nat)
    (he : s.entry it.ref = some e) (hs : e.state = .scheduled c fp) :
    (s.cancelItem b r it).entry it.ref = if e.exitDone then none else some { e with state := .pass r } := by
  have hr := entry_ref s it.ref e he
  have hu : ((s.unreserve b).updateEntry it.ref (passedEntry r)).entry it.ref = some { e with state := .pass r } := by
    rw [entry_updateEntry _ _ _ _ (by intro x; unfold passedEntry; split <;> rfl), entry_unreserve, he]
    simp [hr, passedEntry, hs]
  unfold State.cancelItem State.requestPass
  rw [entry_decideExit, hu]
  cases hd : e.exitDone <;> simp [EntryState.isPass]

/-- Section 7.7: a cancellation leaves the entries of other references. -/
theorem entry_cancelItem_other (s : State) (b : BinNo) (r : PassReason) (it : SchedItem) (n : Nat) (h : n ≠ it.ref) :
    (s.cancelItem b r it).entry n = s.entry n := by
  unfold State.cancelItem State.requestPass
  rw [entry_decideExit, if_neg (by simp [h]), entry_updateEntry _ _ _ _ (by intro x; unfold passedEntry; split <;> rfl),
    entry_unreserve]
  cases he : s.entry n with
  | none => rfl
  | some e => simp [entry_ref s n e he, h]

/-- Section 7.7: an entry not in SCHEDULED that is not both in PASS and decided stands through a cancellation. -/
theorem entry_cancelItem_stands (s : State) (b : BinNo) (r : PassReason) (it : SchedItem) (n : Nat) (e : TransitEntry)
    (he : s.entry n = some e) (hs : ∀ c fp, e.state ≠ .scheduled c fp)
    (hd : e.state.isPass = false ∨ e.exitDone = false) : (s.cancelItem b r it).entry n = some e := by
  by_cases hn : n = it.ref
  · subst hn
    have hu : ((s.unreserve b).updateEntry it.ref (passedEntry r)).entry it.ref = some e := by
      rw [entry_updateEntry _ _ _ _ (by intro x; unfold passedEntry; split <;> rfl), entry_unreserve, he]
      have hp : passedEntry r e = e := by
        unfold passedEntry
        split
        · rename_i h; exact absurd h (hs _ _)
        · rfl
        · rfl
      simp [hp]
    unfold State.cancelItem State.requestPass
    rw [entry_decideExit, hu, if_neg]
    rintro ⟨_, x, hx, h1, h2⟩
    cases hx
    rcases hd with hd | hd <;> simp_all
  · rw [entry_cancelItem_other _ _ _ _ _ hn, he]

/-! ### Free references (R78) -/

theorem freeRef_fresh (l : List TransitEntry) : ∀ fuel n : Nat,
    (∃ k < fuel, ∀ e ∈ l, e.ref ≠ (if k = 0 then n else (n + k) % 256)) → ∀ e ∈ l, e.ref ≠ freeRef l fuel n := by
  intro fuel
  induction fuel with
  | zero => rintro n ⟨k, hk, _⟩; omega
  | succ f ih =>
    rintro n ⟨k, hk, h⟩
    simp only [freeRef]
    split
    · rename_i hany
      apply ih
      cases k with
      | zero =>
        simp at h hany
        obtain ⟨e, he, hr⟩ := hany
        exact absurd hr (h e he)
      | succ k =>
        refine ⟨k, by omega, fun e he => ?_⟩
        have := h e he
        simp at this
        cases k with
        | zero => simpa using this
        | succ k => simp; rw [show n + 1 + (k + 1) = n + (k + 1 + 1) by omega]; exact this
    · rename_i hany; simpa using hany

/-- R78: with fewer than 48 entries held, one of the next 49 values is free. -/
theorem freeRef_exists (l : List TransitEntry) (n : Nat) (h : l.length < 48) :
    ∃ k < 49, ∀ e ∈ l, e.ref ≠ (if k = 0 then n else (n + k) % 256) := by
  by_contra hc
  push Not at hc
  have hsub : ((List.range 48).map (fun k => (n + (k + 1)) % 256)) ⊆ l.map (fun e => e.ref) := by
    intro x hx
    simp at hx
    obtain ⟨k, hk, rfl⟩ := hx
    obtain ⟨e, he, hr⟩ := hc (k + 1) (by omega)
    simp at hr
    simp
    exact ⟨e, he, hr⟩
  have hnd : ((List.range 48).map (fun k => (n + (k + 1)) % 256)).Nodup := by
    apply List.Nodup.map_on _ List.nodup_range
    intro a ha b hb hab
    simp at ha hb
    omega
  have := (hnd.subperm hsub).length_le
  simp at this
  omega

/-! ### Lists in order of distance -/

/-- R55, R79: the place is after every member at most as far, before the first that is farther. -/
theorem insertByDist_place {α : Type} (dist : α → Int) (x : α) (l : List α) :
    ∃ before after, l = before ++ after ∧ insertByDist dist x l = before ++ x :: after ∧
      (∀ y ∈ before, dist y ≤ dist x) ∧ ∀ y, after.head? = some y → dist x < dist y := by
  induction l with
  | nil => exact ⟨[], [], rfl, rfl, by simp, by simp⟩
  | cons a t ih =>
    simp only [insertByDist]
    split
    · rename_i h
      obtain ⟨b, c, h1, h2, h3, h4⟩ := ih
      refine ⟨a :: b, c, by simp [h1], by simp [h2], ?_, h4⟩
      simpa using ⟨h, h3⟩
    · rename_i h
      exact ⟨[], a :: t, rfl, rfl, by simp, by simp; omega⟩

end Sys2Proof.Machine
end

