-- ==== Sys2Proof/Laws/FrameLine.lean ====
section
/-! SUPPORT. What the operations of this group leave as it was, one lemma for each block they do not touch. -/

namespace Sys2Proof.Machine

@[simp] theorem clash_frame (s : State) :
    (s.clash).cfg = s.cfg ∧ (s.clash).retention = s.retention ∧ (s.clash).pos = s.pos ∧
    (s.clash).classifier = s.classifier ∧ (s.clash).pins = s.pins ∧ (s.clash).counters = s.counters ∧
    (s.clash).pending = s.pending := by
  unfold State.clash; try dsimp only
  (repeat' split) <;> simp

@[simp] theorem strippedRoll_frame (s : State) (p : List Byte) :
    (s.strippedRoll p).cfg = s.cfg ∧ (s.strippedRoll p).retention = s.retention ∧ (s.strippedRoll p).pos = s.pos ∧
    (s.strippedRoll p).classifier = s.classifier ∧ (s.strippedRoll p).pins = s.pins ∧
    (s.strippedRoll p).counters = s.counters ∧ (s.strippedRoll p).pending = s.pending := by
  unfold State.strippedRoll; try dsimp only
  (repeat' split) <;> simp

@[simp] theorem strip_frame (s : State) (f : Frame) :
    (s.strip f).cfg = s.cfg ∧ (s.strip f).retention = s.retention ∧ (s.strip f).pos = s.pos ∧
    (s.strip f).classifier = s.classifier ∧ (s.strip f).pins = s.pins ∧ (s.strip f).pending = s.pending := by
  unfold State.strip; try dsimp only
  (repeat' split) <;> simp

@[simp] theorem consumeOwn_frame (s : State) (f : Frame) :
    (s.consumeOwn f).cfg = s.cfg ∧ (s.consumeOwn f).retention = s.retention ∧ (s.consumeOwn f).pos = s.pos ∧
    (s.consumeOwn f).gate = s.gate ∧ (s.consumeOwn f).classifier = s.classifier ∧ (s.consumeOwn f).bins = s.bins ∧
    (s.consumeOwn f).ej = s.ej ∧ (s.consumeOwn f).port = s.port ∧ (s.consumeOwn f).ltu = s.ltu ∧
    (s.consumeOwn f).ctl = s.ctl ∧ (s.consumeOwn f).pins = s.pins ∧ (s.consumeOwn f).pending = s.pending := by
  unfold State.consumeOwn; try dsimp only
  (repeat' split) <;> simp

@[simp] theorem consumeAll_frame (s : State) (f : Frame) :
    (s.consumeAll f).cfg = s.cfg ∧ (s.consumeAll f).retention = s.retention ∧ (s.consumeAll f).pos = s.pos ∧
    (s.consumeAll f).gate = s.gate ∧ (s.consumeAll f).classifier = s.classifier ∧ (s.consumeAll f).trk = s.trk ∧
    (s.consumeAll f).ej = s.ej ∧ (s.consumeAll f).ctl = s.ctl ∧ (s.consumeAll f).pins = s.pins ∧
    (s.consumeAll f).pending = s.pending := by
  unfold State.consumeAll; try dsimp only
  (repeat' split) <;> simp

@[simp] theorem dispatch_frame (s : State) (f : Frame) :
    (s.dispatch f).cfg = s.cfg ∧ (s.dispatch f).retention = s.retention ∧ (s.dispatch f).pos = s.pos ∧
    (s.dispatch f).classifier = s.classifier ∧ (s.dispatch f).pins = s.pins ∧ (s.dispatch f).pending = s.pending := by
  unfold State.dispatch; try dsimp only
  (repeat' split) <;> simp

@[simp] theorem frameArrival_frame (s : State) (f : Frame) :
    (s.frameArrival f).cfg = s.cfg ∧ (s.frameArrival f).retention = s.retention ∧ (s.frameArrival f).pos = s.pos ∧
    (s.frameArrival f).classifier = s.classifier ∧ (s.frameArrival f).pins = s.pins ∧
    (s.frameArrival f).pending = s.pending := by
  unfold State.frameArrival; try dsimp only
  (repeat' split) <;> simp

@[simp] theorem closeFrame_frame (s : State) :
    (s.closeFrame).cfg = s.cfg ∧ (s.closeFrame).retention = s.retention ∧ (s.closeFrame).pos = s.pos ∧
    (s.closeFrame).classifier = s.classifier ∧ (s.closeFrame).pins = s.pins ∧ (s.closeFrame).pending = s.pending := by
  unfold State.closeFrame; try dsimp only
  (repeat' split) <;> simp

@[simp] theorem pairCell_frame (s : State) (c : CellClass) :
    (s.pairCell c).cfg = s.cfg ∧ (s.pairCell c).retention = s.retention ∧ (s.pairCell c).pos = s.pos ∧
    (s.pairCell c).classifier = s.classifier ∧ (s.pairCell c).pins = s.pins ∧ (s.pairCell c).pending = s.pending := by
  unfold State.pairCell; try dsimp only
  (repeat' split) <;> simp

@[simp] theorem plainCell_frame (s : State) (c : CellClass) :
    (s.plainCell c).cfg = s.cfg ∧ (s.plainCell c).retention = s.retention ∧ (s.plainCell c).pos = s.pos ∧
    (s.plainCell c).gate = s.gate ∧ (s.plainCell c).classifier = s.classifier ∧ (s.plainCell c).trk = s.trk ∧
    (s.plainCell c).bins = s.bins ∧ (s.plainCell c).ej = s.ej ∧ (s.plainCell c).ctl = s.ctl ∧
    (s.plainCell c).pins = s.pins ∧ (s.plainCell c).pending = s.pending := by
  unfold State.plainCell; try dsimp only
  (repeat' split) <;> simp

@[simp] theorem receiveCell_frame (s : State) (c : CellClass) :
    (s.receiveCell c).cfg = s.cfg ∧ (s.receiveCell c).retention = s.retention ∧ (s.receiveCell c).pos = s.pos ∧
    (s.receiveCell c).classifier = s.classifier ∧ (s.receiveCell c).pins = s.pins ∧
    (s.receiveCell c).pending = s.pending := by
  unfold State.receiveCell; try dsimp only
  (repeat' split) <;> simp

@[simp] theorem cellTimePasses_eq (s : State) : s.cellTimePasses = s.setPort { s.port with
    silence := min (s.port.silence + Config.cellNs) (Config.silenceCells * Config.cellNs) } := rfl

/-- A cell with a transition ends the silence, whatever time has passed. -/
theorem receiveCell_cellTimePasses (s : State) (c : CellClass) (h : c ≠ .empty) :
    s.cellTimePasses.receiveCell c = s.receiveCell c := by
  have hn : s.cellTimePasses.port.note c = s.port.note c := by simp [LoopPort.note, h]
  have hs : s.cellTimePasses.setPort (s.port.note c) = s.setPort (s.port.note c) := by
    simp only [State.cellTimePasses, State.setPort]
  have hp : s.cellTimePasses.port.pairOpen = s.port.pairOpen := by simp only [cellTimePasses_eq, State.setPort, LoopPort.pairOpen]
  simp only [State.receiveCell, hn, hs, hp]

/-- R139: a mark is its two cells; the time between them is seen by an EMPTY cell alone. -/
theorem receivePair_mark (s : State) (c : CellClass) (h : c ≠ .empty) :
    s.receivePair c = (if s.port.pairOpen then s else s.receiveCell .violation).receiveCell c := by
  unfold State.receivePair
  split
  · rfl
  · exact receiveCell_cellTimePasses _ _ h

@[simp] theorem receivePair_frame (s : State) (c : CellClass) :
    (s.receivePair c).cfg = s.cfg ∧ (s.receivePair c).retention = s.retention ∧ (s.receivePair c).pos = s.pos ∧
    (s.receivePair c).classifier = s.classifier ∧ (s.receivePair c).pins = s.pins ∧
    (s.receivePair c).pending = s.pending := by
  unfold State.receivePair; try dsimp only
  (repeat' split) <;> simp

@[simp] theorem lineError_frame (s : State) (k : LineErrorKind) :
    (State.lineError k s).cfg = s.cfg ∧ (State.lineError k s).retention = s.retention ∧
    (State.lineError k s).pos = s.pos ∧ (State.lineError k s).classifier = s.classifier ∧
    (State.lineError k s).pins = s.pins ∧ (State.lineError k s).pending = s.pending := by
  unfold State.lineError; try dsimp only
  (repeat' split) <;> simp

@[simp] theorem frameTooLong_frame (s : State) :
    (s.frameTooLong).cfg = s.cfg ∧ (s.frameTooLong).retention = s.retention ∧ (s.frameTooLong).pos = s.pos ∧
    (s.frameTooLong).classifier = s.classifier ∧ (s.frameTooLong).pins = s.pins ∧
    (s.frameTooLong).pending = s.pending := by
  unfold State.frameTooLong; try dsimp only
  (repeat' split) <;> simp

@[simp] theorem lossEntry_frame (s : State) (c : LossCause) :
    (State.lossEntry c s).cfg = s.cfg ∧ (State.lossEntry c s).retention = s.retention ∧
    (State.lossEntry c s).pos = s.pos ∧ (State.lossEntry c s).classifier = s.classifier ∧
    (State.lossEntry c s).pins = s.pins ∧ (State.lossEntry c s).pending = s.pending := by
  unfold State.lossEntry; try dsimp only
  (repeat' split) <;> simp

@[simp] theorem lossReturn_frame (s : State) :
    (s.lossReturn).cfg = s.cfg ∧ (s.lossReturn).retention = s.retention ∧ (s.lossReturn).pos = s.pos ∧
    (s.lossReturn).classifier = s.classifier ∧ (s.lossReturn).pins = s.pins ∧ (s.lossReturn).pending = s.pending := by
  unfold State.lossReturn; try dsimp only
  (repeat' split) <;> simp

@[simp] theorem severedRejoin_frame (s : State) :
    (s.severedRejoin).cfg = s.cfg ∧ (s.severedRejoin).retention = s.retention ∧ (s.severedRejoin).pos = s.pos ∧
    (s.severedRejoin).classifier = s.classifier ∧ (s.severedRejoin).pins = s.pins ∧
    (s.severedRejoin).pending = s.pending := by
  unfold State.severedRejoin; try dsimp only
  (repeat' split) <;> simp

@[simp] theorem transmitterFree_frame (s : State) :
    (s.transmitterFree).cfg = s.cfg ∧ (s.transmitterFree).retention = s.retention ∧ (s.transmitterFree).pos = s.pos ∧
    (s.transmitterFree).gate = s.gate ∧ (s.transmitterFree).classifier = s.classifier ∧
    (s.transmitterFree).trk = s.trk ∧ (s.transmitterFree).bins = s.bins ∧ (s.transmitterFree).ej = s.ej ∧
    (s.transmitterFree).ctl = s.ctl ∧ (s.transmitterFree).pins = s.pins ∧ (s.transmitterFree).counters = s.counters ∧
    (s.transmitterFree).pending = s.pending := by
  unfold State.transmitterFree; try dsimp only
  (repeat' split) <;> simp

@[simp] theorem frameSent_frame (s : State) :
    (s.frameSent).cfg = s.cfg ∧ (s.frameSent).retention = s.retention ∧ (s.frameSent).pos = s.pos ∧
    (s.frameSent).gate = s.gate ∧ (s.frameSent).classifier = s.classifier ∧ (s.frameSent).trk = s.trk ∧
    (s.frameSent).bins = s.bins ∧ (s.frameSent).ej = s.ej ∧ (s.frameSent).ltu = s.ltu ∧ (s.frameSent).ctl = s.ctl ∧
    (s.frameSent).pins = s.pins ∧ (s.frameSent).counters = s.counters ∧ (s.frameSent).pending = s.pending := by
  unfold State.frameSent; try dsimp only
  (repeat' split) <;> simp

@[simp] theorem abortMarkSent_frame (s : State) :
    (s.abortMarkSent).cfg = s.cfg ∧ (s.abortMarkSent).retention = s.retention ∧ (s.abortMarkSent).pos = s.pos ∧
    (s.abortMarkSent).gate = s.gate ∧ (s.abortMarkSent).classifier = s.classifier ∧ (s.abortMarkSent).trk = s.trk ∧
    (s.abortMarkSent).bins = s.bins ∧ (s.abortMarkSent).ej = s.ej ∧ (s.abortMarkSent).ltu = s.ltu ∧
    (s.abortMarkSent).ctl = s.ctl ∧ (s.abortMarkSent).pins = s.pins ∧ (s.abortMarkSent).counters = s.counters ∧
    (s.abortMarkSent).pending = s.pending := by
  unfold State.abortMarkSent; try dsimp only
  (repeat' split) <;> simp

@[simp] theorem joiningRetry_frame (s : State) :
    (s.joiningRetry).cfg = s.cfg ∧ (s.joiningRetry).retention = s.retention ∧ (s.joiningRetry).pos = s.pos ∧
    (s.joiningRetry).gate = s.gate ∧ (s.joiningRetry).classifier = s.classifier ∧ (s.joiningRetry).trk = s.trk ∧
    (s.joiningRetry).bins = s.bins ∧ (s.joiningRetry).ej = s.ej ∧ (s.joiningRetry).ctl = s.ctl ∧
    (s.joiningRetry).pins = s.pins ∧ (s.joiningRetry).pending = s.pending := by
  unfold State.joiningRetry; try dsimp only
  (repeat' split) <;> simp

@[simp] theorem joinTimeout_frame (s : State) :
    (s.joinTimeout).cfg = s.cfg ∧ (s.joinTimeout).retention = s.retention ∧ (s.joinTimeout).pos = s.pos ∧
    (s.joinTimeout).gate = s.gate ∧ (s.joinTimeout).classifier = s.classifier ∧ (s.joinTimeout).trk = s.trk ∧
    (s.joinTimeout).bins = s.bins ∧ (s.joinTimeout).ej = s.ej ∧ (s.joinTimeout).ltu = s.ltu ∧
    (s.joinTimeout).ctl = s.ctl ∧ (s.joinTimeout).pins = s.pins ∧ (s.joinTimeout).counters = s.counters ∧
    (s.joinTimeout).pending = s.pending := by
  unfold State.joinTimeout; try dsimp only
  (repeat' split) <;> simp

@[simp] theorem lossTimerEnds_frame (s : State) (w : Bool) :
    (State.lossTimerEnds w s).cfg = s.cfg ∧ (State.lossTimerEnds w s).retention = s.retention ∧
    (State.lossTimerEnds w s).pos = s.pos ∧ (State.lossTimerEnds w s).gate = s.gate ∧
    (State.lossTimerEnds w s).classifier = s.classifier ∧ (State.lossTimerEnds w s).trk = s.trk ∧
    (State.lossTimerEnds w s).bins = s.bins ∧ (State.lossTimerEnds w s).ej = s.ej ∧
    (State.lossTimerEnds w s).ltu = s.ltu ∧ (State.lossTimerEnds w s).ctl = s.ctl ∧
    (State.lossTimerEnds w s).pins = s.pins ∧ (State.lossTimerEnds w s).counters = s.counters ∧
    (State.lossTimerEnds w s).pending = s.pending := by
  unfold State.lossTimerEnds; try dsimp only
  (repeat' split) <;> simp

@[simp] theorem recallEnds_frame (s : State) :
    (s.recallEnds).cfg = s.cfg ∧ (s.recallEnds).retention = s.retention ∧ (s.recallEnds).pos = s.pos ∧
    (s.recallEnds).gate = s.gate ∧ (s.recallEnds).classifier = s.classifier ∧ (s.recallEnds).trk = s.trk ∧
    (s.recallEnds).bins = s.bins ∧ (s.recallEnds).ej = s.ej ∧ (s.recallEnds).port = s.port ∧
    (s.recallEnds).ctl = s.ctl ∧ (s.recallEnds).pins = s.pins ∧ (s.recallEnds).counters = s.counters ∧
    (s.recallEnds).pending = s.pending := by
  unfold State.recallEnds; try dsimp only
  (repeat' split) <;> simp

@[simp] theorem peerSilence_frame (s : State) (a : Nat) :
    (State.peerSilence a s).cfg = s.cfg ∧ (State.peerSilence a s).retention = s.retention ∧
    (State.peerSilence a s).pos = s.pos ∧ (State.peerSilence a s).gate = s.gate ∧
    (State.peerSilence a s).classifier = s.classifier ∧ (State.peerSilence a s).trk = s.trk ∧
    (State.peerSilence a s).ej = s.ej ∧ (State.peerSilence a s).port = s.port ∧ (State.peerSilence a s).ctl = s.ctl ∧
    (State.peerSilence a s).pins = s.pins ∧ (State.peerSilence a s).counters = s.counters ∧
    (State.peerSilence a s).pending = s.pending := by
  unfold State.peerSilence; try dsimp only
  (repeat' split) <;> simp

@[simp] theorem statusPeriod_frame (s : State) :
    (s.statusPeriod).cfg = s.cfg ∧ (s.statusPeriod).retention = s.retention ∧ (s.statusPeriod).pos = s.pos ∧
    (s.statusPeriod).gate = s.gate ∧ (s.statusPeriod).classifier = s.classifier ∧ (s.statusPeriod).trk = s.trk ∧
    (s.statusPeriod).bins = s.bins ∧ (s.statusPeriod).ej = s.ej ∧ (s.statusPeriod).pins = s.pins ∧
    (s.statusPeriod).pending = s.pending := by
  unfold State.statusPeriod; try dsimp only
  (repeat' split) <;> simp

end Sys2Proof.Machine
end

