-- ==== Sys2Proof/Laws/FrameCommands.lean ====
section
/-! SUPPORT. What the operations of this group leave as it was, one lemma for each block they do not touch. -/

namespace Sys2Proof.Machine

@[simp] theorem beginStart_frame (s : State) (x : BitVec 4) :
    (State.beginStart x s).cfg = s.cfg ∧ (State.beginStart x s).retention = s.retention ∧
    (State.beginStart x s).pos = s.pos ∧ (State.beginStart x s).gate = s.gate ∧
    (State.beginStart x s).classifier = s.classifier ∧ (State.beginStart x s).trk = s.trk ∧
    (State.beginStart x s).bins = s.bins ∧ (State.beginStart x s).ej = s.ej ∧ (State.beginStart x s).port = s.port ∧
    (State.beginStart x s).ltu = s.ltu ∧ (State.beginStart x s).counters = s.counters ∧
    (State.beginStart x s).pending = s.pending := by
  unfold State.beginStart; try dsimp only
  (repeat' split) <;> simp

@[simp] theorem failAttempt_frame (s : State) :
    (s.failAttempt).cfg = s.cfg ∧ (s.failAttempt).retention = s.retention ∧ (s.failAttempt).pos = s.pos ∧
    (s.failAttempt).gate = s.gate ∧ (s.failAttempt).classifier = s.classifier ∧ (s.failAttempt).trk = s.trk ∧
    (s.failAttempt).bins = s.bins ∧ (s.failAttempt).ej = s.ej ∧ (s.failAttempt).port = s.port ∧
    (s.failAttempt).ltu = s.ltu ∧ (s.failAttempt).pins = s.pins ∧ (s.failAttempt).counters = s.counters ∧
    (s.failAttempt).pending = s.pending := by
  unfold State.failAttempt; try dsimp only
  (repeat' split) <;> simp

@[simp] theorem retryRead_frame (s : State) :
    (s.retryRead).cfg = s.cfg ∧ (s.retryRead).retention = s.retention ∧ (s.retryRead).pos = s.pos ∧
    (s.retryRead).gate = s.gate ∧ (s.retryRead).classifier = s.classifier ∧ (s.retryRead).trk = s.trk ∧
    (s.retryRead).bins = s.bins ∧ (s.retryRead).ej = s.ej ∧ (s.retryRead).port = s.port ∧ (s.retryRead).ltu = s.ltu ∧
    (s.retryRead).pins = s.pins ∧ (s.retryRead).counters = s.counters ∧ (s.retryRead).pending = s.pending := by
  unfold State.retryRead; try dsimp only
  (repeat' split) <;> simp

@[simp] theorem runNotice_frame (s : State) (i : List Byte) :
    (s.runNotice i).pins = s.pins ∧ (s.runNotice i).pending = s.pending := by
  unfold State.runNotice; try dsimp only
  (repeat' split) <;> simp [foldl_keeps State.pins, foldl_keeps State.pending]

@[simp] theorem readDone_frame (s : State) (i : List Byte) :
    (s.readDone i).pins = s.pins ∧ (s.readDone i).pending = s.pending := by
  unfold State.readDone; try dsimp only
  (repeat' split) <;> simp

@[simp] theorem completeRead_frame (s : State) (m : List Byte) (h : Quad Bool) :
    (State.completeRead m h s).pending = s.pending := by
  unfold State.completeRead; try dsimp only
  (repeat' split) <;> simp

@[simp] theorem rawPulse_frame (s : State) (m : Samples) :
    (State.rawPulse m s).cfg = s.cfg ∧ (State.rawPulse m s).classifier = s.classifier ∧
    (State.rawPulse m s).ctl = s.ctl ∧ (State.rawPulse m s).pending = s.pending := by
  unfold State.rawPulse; try dsimp only
  (repeat' split) <;> simp

@[simp] theorem slatMark_frame (s : State) (m : Samples) :
    (State.slatMark m s).cfg = s.cfg ∧ (State.slatMark m s).classifier = s.classifier ∧
    (State.slatMark m s).ctl = s.ctl ∧ (State.slatMark m s).pending = s.pending := by
  unfold State.slatMark; try dsimp only
  (repeat' split) <;> simp

@[simp] theorem seamReport_frame (s : State) :
    (s.seamReport).cfg = s.cfg ∧ (s.seamReport).retention = s.retention ∧ (s.seamReport).gate = s.gate ∧
    (s.seamReport).classifier = s.classifier ∧ (s.seamReport).trk = s.trk ∧ (s.seamReport).bins = s.bins ∧
    (s.seamReport).ej = s.ej ∧ (s.seamReport).port = s.port ∧ (s.seamReport).ltu = s.ltu ∧
    (s.seamReport).ctl = s.ctl ∧ (s.seamReport).pins = s.pins ∧ (s.seamReport).counters = s.counters ∧
    (s.seamReport).pending = s.pending := by
  unfold State.seamReport; try dsimp only
  (repeat' split) <;> simp

@[simp] theorem watchdogEnds_frame (s : State) :
    (s.watchdogEnds).cfg = s.cfg ∧ (s.watchdogEnds).retention = s.retention ∧ (s.watchdogEnds).gate = s.gate ∧
    (s.watchdogEnds).classifier = s.classifier ∧ (s.watchdogEnds).trk = s.trk ∧ (s.watchdogEnds).ej = s.ej ∧
    (s.watchdogEnds).port = s.port ∧ (s.watchdogEnds).ctl = s.ctl ∧ (s.watchdogEnds).pins = s.pins ∧
    (s.watchdogEnds).counters = s.counters ∧ (s.watchdogEnds).pending = s.pending := by
  unfold State.watchdogEnds; try dsimp only
  (repeat' split) <;> simp

@[simp] theorem fallbackStep_frame (s : State) (m : Samples) :
    (State.fallbackStep m s).cfg = s.cfg ∧ (State.fallbackStep m s).classifier = s.classifier ∧
    (State.fallbackStep m s).ctl = s.ctl ∧ (State.fallbackStep m s).pending = s.pending := by
  unfold State.fallbackStep; try dsimp only
  (repeat' split) <;> simp

@[simp] theorem beltRun_frame (s : State) (on : Bool) :
    (State.beltRun on s).cfg = s.cfg ∧ (State.beltRun on s).retention = s.retention ∧
    (State.beltRun on s).gate = s.gate ∧ (State.beltRun on s).classifier = s.classifier ∧
    (State.beltRun on s).trk = s.trk ∧ (State.beltRun on s).bins = s.bins ∧ (State.beltRun on s).ej = s.ej ∧
    (State.beltRun on s).port = s.port ∧ (State.beltRun on s).ltu = s.ltu ∧ (State.beltRun on s).ctl = s.ctl ∧
    (State.beltRun on s).counters = s.counters ∧ (State.beltRun on s).pending = s.pending := by
  unfold State.beltRun; try dsimp only
  (repeat' split) <;> simp

@[simp] theorem windowEnds_frame (s : State) (o : WindowClose) :
    (State.windowEnds o s).cfg = s.cfg ∧ (State.windowEnds o s).pos = s.pos ∧
    (State.windowEnds o s).classifier = s.classifier ∧ (State.windowEnds o s).ctl = s.ctl ∧
    (State.windowEnds o s).pins = s.pins ∧ (State.windowEnds o s).pending = s.pending := by
  unfold State.windowEnds; try dsimp only
  (repeat' split) <;> simp

@[simp] theorem oscillatorEdge_frame (s : State) :
    (s.oscillatorEdge).cfg = s.cfg ∧ (s.oscillatorEdge).retention = s.retention ∧ (s.oscillatorEdge).pos = s.pos ∧
    (s.oscillatorEdge).classifier = s.classifier ∧ (s.oscillatorEdge).trk = s.trk ∧ (s.oscillatorEdge).bins = s.bins ∧
    (s.oscillatorEdge).ej = s.ej ∧ (s.oscillatorEdge).port = s.port ∧ (s.oscillatorEdge).ltu = s.ltu ∧
    (s.oscillatorEdge).ctl = s.ctl ∧ (s.oscillatorEdge).pins = s.pins ∧ (s.oscillatorEdge).counters = s.counters ∧
    (s.oscillatorEdge).pending = s.pending := by
  unfold State.oscillatorEdge; try dsimp only
  (repeat' split) <;> simp

@[simp] theorem foreignPulseEnds_frame (s : State) :
    (s.foreignPulseEnds).cfg = s.cfg ∧ (s.foreignPulseEnds).retention = s.retention ∧
    (s.foreignPulseEnds).pos = s.pos ∧ (s.foreignPulseEnds).gate = s.gate ∧
    (s.foreignPulseEnds).classifier = s.classifier ∧ (s.foreignPulseEnds).bins = s.bins ∧
    (s.foreignPulseEnds).ej = s.ej ∧ (s.foreignPulseEnds).port = s.port ∧ (s.foreignPulseEnds).ltu = s.ltu ∧
    (s.foreignPulseEnds).ctl = s.ctl ∧ (s.foreignPulseEnds).pins = s.pins ∧
    (s.foreignPulseEnds).counters = s.counters ∧ (s.foreignPulseEnds).pending = s.pending := by
  unfold State.foreignPulseEnds; try dsimp only
  (repeat' split) <;> simp

@[simp] theorem pulseEnds_frame (s : State) (b : BinNo) :
    (State.pulseEnds b s).cfg = s.cfg ∧ (State.pulseEnds b s).retention = s.retention ∧
    (State.pulseEnds b s).pos = s.pos ∧ (State.pulseEnds b s).gate = s.gate ∧
    (State.pulseEnds b s).classifier = s.classifier ∧ (State.pulseEnds b s).trk = s.trk ∧
    (State.pulseEnds b s).bins = s.bins ∧ (State.pulseEnds b s).port = s.port ∧ (State.pulseEnds b s).ltu = s.ltu ∧
    (State.pulseEnds b s).ctl = s.ctl ∧ (State.pulseEnds b s).pins = s.pins ∧
    (State.pulseEnds b s).counters = s.counters ∧ (State.pulseEnds b s).pending = s.pending := by
  unfold State.pulseEnds; try dsimp only
  (repeat' split) <;> simp

@[simp] theorem senseHome_frame (s : State) (b : BinNo) (h : Bool) :
    (s.senseHome b h).cfg = s.cfg ∧ (s.senseHome b h).retention = s.retention ∧ (s.senseHome b h).pos = s.pos ∧
    (s.senseHome b h).gate = s.gate ∧ (s.senseHome b h).classifier = s.classifier ∧ (s.senseHome b h).trk = s.trk ∧
    (s.senseHome b h).bins = s.bins ∧ (s.senseHome b h).ej = s.ej ∧ (s.senseHome b h).port = s.port ∧
    (s.senseHome b h).ltu = s.ltu ∧ (s.senseHome b h).ctl = s.ctl ∧ (s.senseHome b h).counters = s.counters ∧
    (s.senseHome b h).pending = s.pending := by
  unfold State.senseHome; try dsimp only
  (repeat' split) <;> simp

@[simp] theorem recoveryEnds_frame (s : State) (b : BinNo) (h : Bool) :
    (State.recoveryEnds b h s).cfg = s.cfg ∧ (State.recoveryEnds b h s).pos = s.pos ∧
    (State.recoveryEnds b h s).gate = s.gate ∧ (State.recoveryEnds b h s).classifier = s.classifier ∧
    (State.recoveryEnds b h s).ctl = s.ctl ∧ (State.recoveryEnds b h s).pending = s.pending := by
  unfold State.recoveryEnds; try dsimp only
  (repeat' split) <;> simp

@[simp] theorem binSensorChange_frame (s : State) (b : BinNo) (k : BinSensor) (l : Bool) :
    (State.binSensorChange b k l s).cfg = s.cfg ∧ (State.binSensorChange b k l s).retention = s.retention ∧
    (State.binSensorChange b k l s).pos = s.pos ∧ (State.binSensorChange b k l s).gate = s.gate ∧
    (State.binSensorChange b k l s).classifier = s.classifier ∧ (State.binSensorChange b k l s).trk = s.trk ∧
    (State.binSensorChange b k l s).ej = s.ej ∧ (State.binSensorChange b k l s).port = s.port ∧
    (State.binSensorChange b k l s).ltu = s.ltu ∧ (State.binSensorChange b k l s).ctl = s.ctl ∧
    (State.binSensorChange b k l s).counters = s.counters ∧ (State.binSensorChange b k l s).pending = s.pending := by
  unfold State.binSensorChange; try dsimp only
  (repeat' split) <;> simp

@[simp] theorem insertBin_frame (s : State) (b : BinNo) :
    (State.insertBin b s).cfg = s.cfg ∧ (State.insertBin b s).pos = s.pos ∧ (State.insertBin b s).gate = s.gate ∧
    (State.insertBin b s).classifier = s.classifier ∧ (State.insertBin b s).trk = s.trk ∧
    (State.insertBin b s).ej = s.ej ∧ (State.insertBin b s).port = s.port ∧ (State.insertBin b s).ltu = s.ltu ∧
    (State.insertBin b s).ctl = s.ctl ∧ (State.insertBin b s).pins = s.pins ∧
    (State.insertBin b s).counters = s.counters ∧ (State.insertBin b s).pending = s.pending := by
  unfold State.insertBin; try dsimp only
  (repeat' split) <;> simp

@[simp] theorem insertion_frame (s : State) (b : BinNo) :
    (State.insertion b s).cfg = s.cfg ∧ (State.insertion b s).pos = s.pos ∧ (State.insertion b s).gate = s.gate ∧
    (State.insertion b s).classifier = s.classifier ∧ (State.insertion b s).trk = s.trk ∧
    (State.insertion b s).ej = s.ej ∧ (State.insertion b s).port = s.port ∧ (State.insertion b s).ltu = s.ltu ∧
    (State.insertion b s).ctl = s.ctl ∧ (State.insertion b s).pins = s.pins ∧
    (State.insertion b s).counters = s.counters ∧ (State.insertion b s).pending = s.pending := by
  unfold State.insertion; try dsimp only
  (repeat' split) <;> simp

@[simp] theorem fillDown_frame (s : State) (b : BinNo) :
    (State.fillDown b s).cfg = s.cfg ∧ (State.fillDown b s).pos = s.pos ∧ (State.fillDown b s).gate = s.gate ∧
    (State.fillDown b s).classifier = s.classifier ∧ (State.fillDown b s).trk = s.trk ∧
    (State.fillDown b s).ej = s.ej ∧ (State.fillDown b s).port = s.port ∧ (State.fillDown b s).ltu = s.ltu ∧
    (State.fillDown b s).ctl = s.ctl ∧ (State.fillDown b s).pins = s.pins ∧
    (State.fillDown b s).counters = s.counters ∧ (State.fillDown b s).pending = s.pending := by
  unfold State.fillDown; try dsimp only
  (repeat' split) <;> simp

@[simp] theorem fullSensorFall_frame (s : State) (b : BinNo) :
    (State.fullSensorFall b s).cfg = s.cfg ∧ (State.fullSensorFall b s).pos = s.pos ∧
    (State.fullSensorFall b s).gate = s.gate ∧ (State.fullSensorFall b s).classifier = s.classifier ∧
    (State.fullSensorFall b s).trk = s.trk ∧ (State.fullSensorFall b s).ej = s.ej ∧
    (State.fullSensorFall b s).port = s.port ∧ (State.fullSensorFall b s).ltu = s.ltu ∧
    (State.fullSensorFall b s).ctl = s.ctl ∧ (State.fullSensorFall b s).pins = s.pins ∧
    (State.fullSensorFall b s).counters = s.counters ∧ (State.fullSensorFall b s).pending = s.pending := by
  unfold State.fullSensorFall; try dsimp only
  (repeat' split) <;> simp

@[simp] theorem binstatePeriod_frame (s : State) :
    (s.binstatePeriod).cfg = s.cfg ∧ (s.binstatePeriod).retention = s.retention ∧ (s.binstatePeriod).pos = s.pos ∧
    (s.binstatePeriod).gate = s.gate ∧ (s.binstatePeriod).classifier = s.classifier ∧ (s.binstatePeriod).trk = s.trk ∧
    (s.binstatePeriod).ej = s.ej ∧ (s.binstatePeriod).port = s.port ∧ (s.binstatePeriod).ltu = s.ltu ∧
    (s.binstatePeriod).ctl = s.ctl ∧ (s.binstatePeriod).pins = s.pins ∧ (s.binstatePeriod).counters = s.counters ∧
    (s.binstatePeriod).pending = s.pending := by
  unfold State.binstatePeriod; try dsimp only
  (repeat' split) <;> simp

@[simp] theorem keyChange_frame (s : State) (t : Bool) :
    (State.keyChange t s).cfg = s.cfg ∧ (State.keyChange t s).retention = s.retention ∧
    (State.keyChange t s).pos = s.pos ∧ (State.keyChange t s).gate = s.gate ∧
    (State.keyChange t s).classifier = s.classifier ∧ (State.keyChange t s).trk = s.trk ∧
    (State.keyChange t s).bins = s.bins ∧ (State.keyChange t s).ej = s.ej ∧ (State.keyChange t s).port = s.port ∧
    (State.keyChange t s).ltu = s.ltu ∧ (State.keyChange t s).counters = s.counters ∧
    (State.keyChange t s).pending = s.pending := by
  unfold State.keyChange; try dsimp only
  (repeat' split) <;> simp

@[simp] theorem takeKey_frame (s : State) (t : Bool) :
    (s.takeKey t).cfg = s.cfg ∧ (s.takeKey t).retention = s.retention ∧ (s.takeKey t).pos = s.pos ∧
    (s.takeKey t).gate = s.gate ∧ (s.takeKey t).classifier = s.classifier ∧ (s.takeKey t).trk = s.trk ∧
    (s.takeKey t).bins = s.bins ∧ (s.takeKey t).ej = s.ej ∧ (s.takeKey t).port = s.port ∧ (s.takeKey t).ltu = s.ltu ∧
    (s.takeKey t).pins = s.pins ∧ (s.takeKey t).counters = s.counters ∧ (s.takeKey t).pending = s.pending := by
  unfold State.takeKey; try dsimp only
  (repeat' split) <;> simp

@[simp] theorem press_frame (s : State) :
    (s.press).cfg = s.cfg ∧ (s.press).pos = s.pos ∧ (s.press).gate = s.gate ∧ (s.press).classifier = s.classifier ∧
    (s.press).pins = s.pins ∧ (s.press).pending = s.pending := by
  unfold State.press; try dsimp only
  (repeat' split) <;> simp

@[simp] theorem keyPress_frame (s : State) :
    (s.keyPress).cfg = s.cfg ∧ (s.keyPress).pos = s.pos ∧ (s.keyPress).gate = s.gate ∧
    (s.keyPress).classifier = s.classifier ∧ (s.keyPress).pins = s.pins ∧ (s.keyPress).pending = s.pending := by
  unfold State.keyPress; try dsimp only
  (repeat' split) <;> simp

@[simp] theorem keyRelease_frame (s : State) :
    (s.keyRelease).cfg = s.cfg ∧ (s.keyRelease).retention = s.retention ∧ (s.keyRelease).pos = s.pos ∧
    (s.keyRelease).gate = s.gate ∧ (s.keyRelease).classifier = s.classifier ∧ (s.keyRelease).trk = s.trk ∧
    (s.keyRelease).bins = s.bins ∧ (s.keyRelease).ej = s.ej ∧ (s.keyRelease).port = s.port ∧
    (s.keyRelease).ltu = s.ltu ∧ (s.keyRelease).pins = s.pins ∧ (s.keyRelease).counters = s.counters ∧
    (s.keyRelease).pending = s.pending := by
  unfold State.keyRelease; try dsimp only
  (repeat' split) <;> simp

@[simp] theorem chainOpens_frame (s : State) :
    (s.chainOpens).cfg = s.cfg ∧ (s.chainOpens).pos = s.pos ∧ (s.chainOpens).gate = s.gate ∧
    (s.chainOpens).classifier = s.classifier ∧ (s.chainOpens).pending = s.pending := by
  unfold State.chainOpens; try dsimp only
  (repeat' split) <;> simp

@[simp] theorem chainCloses_frame (s : State) :
    (s.chainCloses).cfg = s.cfg ∧ (s.chainCloses).retention = s.retention ∧ (s.chainCloses).pos = s.pos ∧
    (s.chainCloses).gate = s.gate ∧ (s.chainCloses).classifier = s.classifier ∧ (s.chainCloses).trk = s.trk ∧
    (s.chainCloses).bins = s.bins ∧ (s.chainCloses).ej = s.ej ∧ (s.chainCloses).port = s.port ∧
    (s.chainCloses).ltu = s.ltu ∧ (s.chainCloses).counters = s.counters ∧ (s.chainCloses).pending = s.pending := by
  unfold State.chainCloses; try dsimp only
  (repeat' split) <;> simp

@[simp] theorem safeExit_frame (s : State) :
    (s.safeExit).cfg = s.cfg ∧ (s.safeExit).retention = s.retention ∧ (s.safeExit).pos = s.pos ∧
    (s.safeExit).gate = s.gate ∧ (s.safeExit).classifier = s.classifier ∧ (s.safeExit).trk = s.trk ∧
    (s.safeExit).ej = s.ej ∧ (s.safeExit).port = s.port ∧ (s.safeExit).ltu = s.ltu ∧ (s.safeExit).pins = s.pins ∧
    (s.safeExit).counters = s.counters ∧ (s.safeExit).pending = s.pending := by
  unfold State.safeExit; try dsimp only
  (repeat' split) <;> simp

end Sys2Proof.Machine
end

