-- ==== Sys2Proof/Laws/LineCells.lean ====
section
/-! SUPPORT. The cells of bytes, marks and frames: how many, and which classes they have (R138, R139, R145). -/

namespace Sys2Proof.Machine

/-- R138: the transitions of a class and the class of the transitions. -/
@[simp] theorem cellOfTransitions_class (c : CellClass) : cellOfTransitions c.startTransition c.midTransition = c := by
  cases c <;> rfl

@[simp] theorem byteCells_length (b : Byte) : (byteCells b).length = 8 := by simp [byteCells]

/-- R138: bit `i` is cell `i` of its byte. -/
theorem byteCells_get (b : Byte) (i : Nat) (h : i < 8) :
    (byteCells b)[i]? = some (if b.getLsbD i then CellClass.one else .zero) := by
  simp [byteCells, bitCell, h]

/-- R138, R139: a data cell is a ONE or a ZERO. -/
theorem byteCells_data (b : Byte) : ∀ c ∈ byteCells b, c = .one ∨ c = .zero := by
  intro c hc
  simp only [byteCells, List.mem_map, bitCell] at hc
  obtain ⟨i, _, rfl⟩ := hc
  split <;> simp

@[simp] theorem flatMap_byteCells_length (bytes : List Byte) : (bytes.flatMap byteCells).length = bytes.length * 8 := by
  induction bytes with
  | nil => rfl
  | cons b t ih => simp [ih]; omega

/-- R145: a frame of n bytes takes n x 8 + 4 cells. -/
@[simp] theorem frameCells_length (bytes : List Byte) : (frameCells bytes).length = bytes.length * 8 + 4 := by
  simp [frameCells, openMark, closeMark]

end Sys2Proof.Machine
end

