-- ==== Sys2Proof/Laws/Outputs.lean ====
section
/-! SUPPORT. What the work on items can do to the ejectors' outputs and schedules, whatever the operation (R126): an output
stays a PULSING ejector's, and outside RUN nothing is scheduled and no pulse begins. -/

namespace Sys2Proof.Machine

/-- R126: an output that is on is a PULSING ejector's. -/
def Shadowed (q : Quad Ejector) : Prop := ∀ b, (q.get b).shadow = true → (q.get b).state = .pulsing

/-- No ejector pulses, and no schedule holds an item. -/
def Resting (q : Quad Ejector) : Prop := ∀ b, (q.get b).state ≠ .pulsing ∧ (q.get b).schedule = []

/-- What an operation on items does between `s` and `t`. -/
def KeepsOutputs (s t : State) : Prop :=
  t.ctl.mode = s.ctl.mode ∧ (Shadowed s.ej → Shadowed t.ej) ∧
  (s.ctl.mode = .safe ∨ s.ctl.mode = .service → Resting s.ej → Resting t.ej)

theorem keepsOutputs_refl (s : State) : KeepsOutputs s s := ⟨rfl, id, fun _ h => h⟩

theorem keepsOutputs_trans {s t u : State} (h1 : KeepsOutputs s t) (h2 : KeepsOutputs t u) : KeepsOutputs s u :=
  ⟨h2.1.trans h1.1, fun h => h2.2.1 (h1.2.1 h), fun hm h => h2.2.2 (by rw [h1.1]; exact hm) (h1.2.2 hm h)⟩

theorem keepsOutputs_same {s t : State} (hc : t.ctl = s.ctl) (he : t.ej = s.ej) : KeepsOutputs s t :=
  ⟨by rw [hc], by rw [he]; exact id, by rw [he]; exact fun _ h => h⟩

theorem keepsOutputs_foldl {α : Type} (g : State → α → State) (h : ∀ s x, KeepsOutputs s (g s x)) (l : List α) (s : State) :
    KeepsOutputs s (l.foldl g s) := by
  induction l generalizing s with
  | nil => exact keepsOutputs_refl s
  | cons x t ih => exact keepsOutputs_trans (h s x) (ih (g s x))

/-- An ejector's record that is quieter than the one it replaces. -/
theorem keepsOutputs_set {s t : State} (b : BinNo) (x : Ejector) (hc : t.ctl = s.ctl) (he : t.ej = s.ej.set b x)
    (h1 : x.shadow = true → (s.ej.get b).shadow = true ∧ x.state = (s.ej.get b).state)
    (h2 : x.state = .pulsing → (s.ej.get b).state = .pulsing)
    (h3 : (s.ej.get b).schedule = [] → x.schedule = []) : KeepsOutputs s t := by
  refine ⟨by rw [hc], fun h c => ?_, fun _ h c => ?_⟩
  · rw [he]
    by_cases hcb : c = b
    · subst hcb
      rw [Quad.get_set_same]
      intro hx
      obtain ⟨a, e⟩ := h1 hx
      rw [e]; exact h c a
    · rw [Quad.get_set_other _ _ _ _ hcb]; exact h c
  · rw [he]
    by_cases hcb : c = b
    · subst hcb
      rw [Quad.get_set_same]
      exact ⟨fun hx => (h c).1 (h2 hx), h3 (h c).2⟩
    · rw [Quad.get_set_other _ _ _ _ hcb]; exact h c

theorem keepsOutputs_cancelSchedule (s : State) (b : BinNo) (r : PassReason) : KeepsOutputs s (s.cancelSchedule b r) :=
  keepsOutputs_set b _ (by simp) (cancelSchedule_ej s b r) (by simp) (by simp) (by simp)

theorem keepsOutputs_enterFault (s : State) (b : BinNo) : KeepsOutputs s (s.enterFault b) := by
  by_cases h : (s.ej.get b).state = .fault
  · simp only [State.enterFault, h, if_true]; exact keepsOutputs_refl s
  · exact keepsOutputs_set b _ (by simp) (enterFault_ej s b h) (by simp) (by simp) (by simp)

theorem keepsOutputs_cut (s : State) (b : BinNo) : KeepsOutputs s (s.cut b) := by
  unfold State.cut
  split
  · exact keepsOutputs_set b ((s.ej.get b).recover (s.binCfg b).recoveryMs) (by simp) (by simp [State.setEjector])
      (by simp [Ejector.recover]) (by simp [Ejector.recover]) (by simp [Ejector.recover])
  · exact keepsOutputs_refl s

theorem keepsOutputs_detachWatch (s : State) (b : BinNo) : KeepsOutputs s (s.detachWatch b) := by
  refine keepsOutputs_set b { s.ej.get b with watch := (s.ej.get b).watch.map (fun w => { w with detached := true }) }
    (by simp) ?_ (by simp) (by simp) (by simp)
  unfold State.detachWatch
  dsimp only
  rw [foldl_keeps State.ej _ (by simp)]
  simp [State.setEjector]

/-- R103: a removal. -/
theorem keepsOutputs_removal (s : State) (b : BinNo) : KeepsOutputs s (s.removal b) := by
  unfold State.removal State.removeBin
  split
  · split
    · exact keepsOutputs_same (by simp) (by simp)
    · dsimp only
      refine keepsOutputs_trans (t := s.takeSensor b .present false) (keepsOutputs_same (by simp) (by simp))
        (keepsOutputs_trans (keepsOutputs_cancelSchedule _ b .binRemoved) (keepsOutputs_trans (keepsOutputs_detachWatch _ b)
          (keepsOutputs_same (by simp) (by simp))))
  · exact keepsOutputs_refl s

/-- R100: a full-sensor rise. -/
theorem keepsOutputs_fullSensorRise (s : State) (b : BinNo) : KeepsOutputs s (s.fullSensorRise b) := by
  unfold State.fullSensorRise State.fillUp
  split
  · split
    · refine keepsOutputs_trans (t := (s.takeSensor b .full true).setBin b _) (keepsOutputs_same (by simp) (by simp))
        (keepsOutputs_cancelSchedule _ b .full)
    · exact keepsOutputs_same (by simp) (by simp)
  · exact keepsOutputs_refl s

/-- The model's own field of the Bin Unit (log 28) is not among them. -/
theorem keepsOutputs_setBetween {s t : State} (h : KeepsOutputs s t) (l : List (List BinEvent)) :
    KeepsOutputs s (t.setBetween l) := keepsOutputs_trans h (keepsOutputs_same (by simp) (by simp))

/-- R104: the sensor events taken before a reservation request. -/
theorem keepsOutputs_takeBetween (s : State) : KeepsOutputs s s.takeBetween := by
  unfold State.takeBetween
  split
  · exact keepsOutputs_refl s
  · refine keepsOutputs_trans (keepsOutputs_setBetween (keepsOutputs_refl s) _) (keepsOutputs_foldl _ (fun s e => ?_) _ _)
    cases e with
    | removal b => exact keepsOutputs_removal s b
    | fullSensorRise b => exact keepsOutputs_fullSensorRise s b

/-- R118: outside RUN the decision takes nothing. -/
theorem keepsOutputs_decision (s : State) (n : Nat) (t : Ticket) : KeepsOutputs s (s.decision n t).1 := by
  have hp : ∀ m, m = Mode.safe ∨ m = Mode.service → s.ctl.mode = m → (s.decision n t).1 = s := by
    intro m hm h
    have : ∃ r, s.passAtOnce t = some r := by rcases hm with rfl | rfl <;> simp [State.passAtOnce, h]
    obtain ⟨r, hr⟩ := this
    simp [State.decision, hr]
  refine ⟨by simp, fun h => ?_, fun hm h => by rw [hp _ hm rfl]; exact h⟩
  unfold State.decision
  split
  · exact h
  split
  · exact h
  split
  · exact h
  split
  · rename_i b _ _
    have h1 : Shadowed s.takeBetween.ej := (keepsOutputs_takeBetween s).2.1 h
    unfold State.take
    dsimp only
    split
    · intro c
      by_cases hc : c = b
      · subst hc; simpa [State.setEjector] using h1 c
      · simpa [State.setEjector, hc] using h1 c
    · exact h1
  · exact h

theorem shadowed_fireHead (s : State) (b : BinNo) (it : SchedItem) (h : Shadowed s.ej) : Shadowed (s.fireHead b it).ej := by
  unfold State.fireHead
  split
  · simpa [State.cancelItem] using h
  split
  · simpa [State.cancelItem] using h
  · intro c
    by_cases hc : c = b
    · subst hc; simp [State.fire, State.setEjector]
    · simpa [State.fire, State.setEjector, hc] using h c

/-- R124: a fire needs an item in the schedule. -/
theorem keepsOutputs_fireEjector (ev : StepEvent) (s : State) (b : BinNo) : KeepsOutputs s (s.fireEjector ev b) := by
  refine ⟨by simp, fun h => ?_, fun _ h => ?_⟩
  · unfold State.fireEjector
    dsimp only
    generalize (s.ej.get b).schedule.takeWhile (fun it => ev.covers s.cfg.span it.firePos) = l
    generalize hx : s.setEjector b { s.ej.get b with
      schedule := (s.ej.get b).schedule.dropWhile (fun it => ev.covers s.cfg.span it.firePos) } = x
    have h0 : Shadowed x.ej := by
      subst hx
      intro c
      by_cases hc : c = b
      · subst hc; simpa [State.setEjector] using h c
      · simpa [State.setEjector, hc] using h c
    clear hx
    induction l generalizing x with
    | nil => exact h0
    | cons a t ih => exact ih _ (shadowed_fireHead x b a h0)
  · unfold State.fireEjector
    dsimp only
    rw [(h b).2]
    intro c
    by_cases hc : c = b
    · subst hc; simpa [State.setEjector] using (h c).1
    · simpa [State.setEjector, hc] using h c

theorem keepsOutputs_fires (s : State) (ev : StepEvent) : KeepsOutputs s (s.fires ev) :=
  keepsOutputs_foldl _ (fun s b => keepsOutputs_fireEjector ev s b) _ _

theorem keepsOutputs_verifyItem (s : State) (b : BinNo) (w : WatchItem) : KeepsOutputs s (s.verifyItem b w) := by
  unfold State.verifyItem
  split
  · unfold State.verifiedBlocked
    dsimp only
    generalize hx : State.requestMissed _ _ = x
    have h0 : KeepsOutputs s x := by
      subst hx
      refine keepsOutputs_set b { s.ej.get b with misses := min 2 ((s.ej.get b).misses + 1) } ?_ ?_ (by simp) (by simp)
        (by simp)
      · split <;> simp
      · split <;> simp [State.setEjector]
    split
    · exact keepsOutputs_trans h0 (keepsOutputs_enterFault x b)
    · exact h0
  · unfold State.verifiedClear
    dsimp only
    refine keepsOutputs_set b { s.ej.get b with misses := 0 } ?_ ?_ (by simp) (by simp) (by simp)
    · split <;> simp
    · split <;> simp [State.setEjector]

theorem keepsOutputs_verifies (s : State) (ev : StepEvent) : KeepsOutputs s (s.verifies ev) := by
  refine keepsOutputs_foldl _ (fun s b => ?_) _ _
  unfold State.verifyEjector
  dsimp only
  refine keepsOutputs_trans (keepsOutputs_set b _ (by simp) rfl (by simp) (by simp) (by simp)) (keepsOutputs_foldl _
    (fun s w => keepsOutputs_verifyItem s b w) _ _)

theorem keepsOutputs_settleWatches (s : State) : KeepsOutputs s s.settleWatches := by
  refine ⟨by simp, fun h c => ?_, fun _ h c => ?_⟩
  · simpa [State.settleWatches, Ejector.settle] using h c
  · simpa [State.settleWatches, Ejector.settle] using h c

theorem keepsOutputs_handOver (s : State) (d : Detection) : KeepsOutputs s (s.handOver d) := by
  have hi : ∀ (s : State) (t : Ticket) (x : Bool) (k : Counter), KeepsOutputs s (s.insertItem t x k) := by
    intro s t x k
    unfold State.insertItem
    dsimp only
    generalize hz : Prod.fst (State.decision _ _ _) = z
    have h0 : KeepsOutputs s z := by
      subst hz
      exact keepsOutputs_trans (keepsOutputs_same (by simp) (by simp)) (keepsOutputs_decision _ _ _)
    exact keepsOutputs_trans h0 (keepsOutputs_same (by simp) (by simp))
  unfold State.handOver
  dsimp only
  split
  · exact keepsOutputs_same (by simp) (by simp)
  · refine keepsOutputs_trans (t := (s.releaseLink d.lead).place d) ?_ (keepsOutputs_same (by simp) (by simp))
    unfold State.place
    dsimp only
    split
    · split
      · exact keepsOutputs_trans (keepsOutputs_same (by simp) (by simp)) (hi _ _ _ _)
      · exact keepsOutputs_trans (keepsOutputs_same (by simp) (by simp)) (hi _ _ _ _)
    · exact keepsOutputs_same (by simp) (by simp)

theorem keepsOutputs_trackStep (s : State) (ev : StepEvent) : KeepsOutputs s (s.trackStep ev) := by
  have hf : KeepsOutputs s s.flush := by
    unfold State.flush
    dsimp only
    refine keepsOutputs_trans (keepsOutputs_foldl State.withdraw (fun s e => ?_) s.trk.transit s) ?_
    · unfold State.withdraw
      split
      · exact keepsOutputs_refl s
      · rename_i b _ _
        refine keepsOutputs_set b { s.ej.get b with
          schedule := (s.ej.get b).schedule.filter (fun it => it.ref != e.ref) } (by simp)
          (by simp [State.setEjector]) (by simp) (by simp) (by intro h; simp [h])
      · split
        · exact keepsOutputs_refl s
        · exact keepsOutputs_same (by simp) (by simp)
    · refine ⟨by simp, fun h c => ?_, fun _ h c => ?_⟩
      · simpa using h c
      · simpa using h c
  unfold State.trackStep
  dsimp only
  split
  · exact keepsOutputs_trans hf (keepsOutputs_same (by simp) (by simp))
  · exact keepsOutputs_same (by simp) (by simp)

theorem keepsOutputs_closing (s : State) (d : Detection) (a : GateState) : KeepsOutputs s (s.closing d a) := by
  unfold State.closing
  dsimp only
  split
  · split
    · generalize hz : State.handOver _ _ = z
      have h0 : KeepsOutputs s z := by
        subst hz
        exact keepsOutputs_trans (keepsOutputs_same (by simp) (by simp)) (keepsOutputs_handOver _ _)
      exact keepsOutputs_trans h0 (keepsOutputs_same (by simp) (by simp))
    · exact keepsOutputs_same (by simp) (by simp)
  · exact keepsOutputs_same (by simp) (by simp)

theorem keepsOutputs_gateStep (s : State) (ev : StepEvent) : KeepsOutputs s (s.gateStep ev) := by
  have hd : ∀ (s : State) p c, KeepsOutputs s (s.detect p c) := by
    intro s p c
    unfold State.detect State.openSample State.clearSample State.cutDetection
    dsimp only
    (repeat' split) <;>
      first | exact keepsOutputs_closing _ _ _ | exact keepsOutputs_same (by simp) (by simp)
  unfold State.gateStep
  dsimp only
  split
  · exact keepsOutputs_refl s
  · split
    · exact keepsOutputs_same (by simp) (by simp)
    · generalize hz : State.detect _ _ _ = z
      have h0 : KeepsOutputs s z := by
        subst hz
        exact keepsOutputs_trans (keepsOutputs_same (by simp) (by simp)) (hd _ _ _)
      exact keepsOutputs_trans h0 (keepsOutputs_same (by simp) (by simp))

/-- R4: a step event, in whatever order the blocks take it. -/
theorem keepsOutputs_stepEvent (s : State) (m : Samples) (ev : StepEvent) : KeepsOutputs s (s.stepEvent m ev) := by
  unfold State.stepEvent
  refine keepsOutputs_setBetween (keepsOutputs_trans (keepsOutputs_setBetween (keepsOutputs_same (t := s.sample m)
    (by simp) (by simp)) _) (keepsOutputs_trans (keepsOutputs_foldl (State.runPart ev) (fun s p => ?_) _ _)
      (keepsOutputs_settleWatches _))) _
  cases p
  · exact keepsOutputs_gateStep s ev
  · exact keepsOutputs_fires s ev
  · exact keepsOutputs_verifies s ev
  · exact keepsOutputs_trackStep s ev

/-- R34: the close of a coil window. -/
theorem keepsOutputs_closeWindow (s : State) (o : WindowClose) : KeepsOutputs s (s.closeWindow o) := by
  unfold State.closeWindow
  dsimp only
  exact keepsOutputs_setBetween (keepsOutputs_trans (keepsOutputs_setBetween (keepsOutputs_same (t := s.setGate _)
    (by simp) (by simp)) _) (keepsOutputs_foldl _ (fun s d => keepsOutputs_handOver s d) _ _)) _

/-- R126, R133: after every pulse is cut none is in progress. -/
theorem cutAll_ejector (s : State) (b : BinNo) :
    (s.cutAll.ej.get b).state ≠ .pulsing ∧ (s.cutAll.ej.get b).schedule = (s.ej.get b).schedule ∧
    (s.cutAll.ej.get b).shadow = (if (s.ej.get b).state = .pulsing then false else (s.ej.get b).shadow) := by
  have h : ∀ (s : State) (c : BinNo), (s.cut c).ej = s.ej.set c (if (s.ej.get c).state = .pulsing then
      (s.ej.get c).recover (s.binCfg c).recoveryMs else s.ej.get c) := by
    intro s c
    unfold State.cut
    split
    · simp [State.setEjector]
    · apply Quad.ext_get; intro d
      by_cases hd : d = c
      · subst hd; simp
      · simp [hd]
  simp only [State.cutAll, allBins, List.foldl_cons, List.foldl_nil, h]
  have hx : ∀ (e : Ejector) (r : Nat),
      (if e.state = .pulsing then e.recover r else e).state ≠ .pulsing ∧
      (if e.state = .pulsing then e.recover r else e).schedule = e.schedule ∧
      (if e.state = .pulsing then e.recover r else e).shadow = (if e.state = .pulsing then false else e.shadow) := by
    intro e r
    split
    · simp [Ejector.recover]
    · rename_i h; exact ⟨h, rfl, rfl⟩
  cases b <;> exact hx _ _

/-- R133: a cancellation of every schedule empties them and touches nothing else of the ejectors. -/
@[simp] theorem cancelAll_ejector (s : State) (r : PassReason) (b : BinNo) :
    (s.cancelAll r).ej.get b = { s.ej.get b with schedule := [] } := by
  simp only [State.cancelAll, allBins, List.foldl_cons, List.foldl_nil, cancelSchedule_ej]
  cases b <;> rfl

end Sys2Proof.Machine
end

