-- ==== Sys2Proof/Laws/PerInstr.lean ====
section
/-! SUPPORT. A statement for every command: no word spells it, since spec/opcode_table.json gives its rows no bits (log 6). -/

/-- No number of bits and no word decode to the command. -/
def Sys2Proof.Laws.NoWord.Statement (i : Sys2Proof.Instr) : Prop :=
  ∀ nbits w : Nat, Sys2Proof.decodeTableWord nbits w ≠ some i

namespace Sys2Proof.Laws.NoWord

theorem powerOnReset (dt : Nat) : Statement (.powerOnReset dt) := nofun

theorem externalReset (dt : Nat) : Statement (.externalReset dt) := nofun

theorem start (dt : Nat) (straps : BitVec 4) : Statement (.start dt straps) := nofun

theorem attemptFailure (dt : Nat) : Statement (.attemptFailure dt) := nofun

theorem configReadRetry (dt : Nat) : Statement (.configReadRetry dt) := nofun

theorem configReadComplete (dt : Nat) (memory : List Byte) (armHome : Quad Bool) : Statement (.configReadComplete dt memory armHome) := nofun

theorem rawPulse (dt : Nat) (smp : Samples) : Statement (.rawPulse dt smp) := nofun

theorem slatMark (dt : Nat) (smp : Samples) : Statement (.slatMark dt smp) := nofun

theorem seamReport (dt : Nat) : Statement (.seamReport dt) := nofun

theorem encoderWatchdogExpiry (dt : Nat) : Statement (.encoderWatchdogExpiry dt) := nofun

theorem fallbackStep (dt : Nat) (smp : Samples) : Statement (.fallbackStep dt smp) := nofun

theorem beltRunChange (dt : Nat) (on : Bool) : Statement (.beltRunChange dt on) := nofun

theorem coilWindowClose (dt : Nat) (close : WindowClose) : Statement (.coilWindowClose dt close) := nofun

theorem foreignAttentionPulseEnd (dt : Nat) : Statement (.foreignAttentionPulseEnd dt) := nofun

theorem pulseTimerExpiry (dt : Nat) (b : BinNo) : Statement (.pulseTimerExpiry dt b) := nofun

theorem recoveryTimerExpiry (dt : Nat) (b : BinNo) (home : Bool) : Statement (.recoveryTimerExpiry dt b home) := nofun

theorem binSensorChange (dt : Nat) (b : BinNo) (sensor : BinSensor) (level : Bool) : Statement (.binSensorChange dt b sensor level) := nofun

theorem insertion (dt : Nat) (b : BinNo) : Statement (.insertion dt b) := nofun

theorem removal (dt : Nat) (b : BinNo) : Statement (.removal dt b) := nofun

theorem fullSensorRise (dt : Nat) (b : BinNo) : Statement (.fullSensorRise dt b) := nofun

theorem fullSensorFall (dt : Nat) (b : BinNo) : Statement (.fullSensorFall dt b) := nofun

theorem binstatePeriodTimer (dt : Nat) : Statement (.binstatePeriodTimer dt) := nofun

theorem openMark (dt : Nat) : Statement (.openMark dt) := nofun

theorem abortMark (dt : Nat) : Statement (.abortMark dt) := nofun

theorem lineError (dt : Nat) (kind : LineErrorKind) : Statement (.lineError dt kind) := nofun

theorem frameTooLong (dt : Nat) : Statement (.frameTooLong dt) := nofun

theorem closeMark (dt : Nat) : Statement (.closeMark dt) := nofun

theorem lossEntry (dt : Nat) (cause : LossCause) : Statement (.lossEntry dt cause) := nofun

theorem lossReturn (dt : Nat) : Statement (.lossReturn dt) := nofun

theorem recallTimerExpiry (dt : Nat) : Statement (.recallTimerExpiry dt) := nofun

theorem transmitterFree (dt : Nat) : Statement (.transmitterFree dt) := nofun

theorem frameSent (dt : Nat) : Statement (.frameSent dt) := nofun

theorem joiningRollRetry (dt : Nat) : Statement (.joiningRollRetry dt) := nofun

theorem joinTimeout (dt : Nat) : Statement (.joinTimeout dt) := nofun

theorem lossTimerExpiry (dt : Nat) (withIdleCell : Bool) : Statement (.lossTimerExpiry dt withIdleCell) := nofun

theorem severedRejoin (dt : Nat) : Statement (.severedRejoin dt) := nofun

theorem peerSilenceTimeout (dt : Nat) (address : Nat) : Statement (.peerSilenceTimeout dt address) := nofun

theorem statusPeriodTimer (dt : Nat) : Statement (.statusPeriodTimer dt) := nofun

theorem serviceKeyChange (dt : Nat) (turned : Bool) : Statement (.serviceKeyChange dt turned) := nofun

theorem serviceKeyPress (dt : Nat) : Statement (.serviceKeyPress dt) := nofun

theorem safetyChainOpening (dt : Nat) : Statement (.safetyChainOpening dt) := nofun

theorem safetyChainClosing (dt : Nat) : Statement (.safetyChainClosing dt) := nofun

theorem safeExit (dt : Nat) : Statement (.safeExit dt) := nofun

theorem oscillatorEdge (dt : Nat) : Statement (.oscillatorEdge dt) := nofun

theorem cellReceived (dt : Nat) (cell : CellClass) : Statement (.cellReceived dt cell) := nofun

theorem keySettledRelease (dt : Nat) : Statement (.keySettledRelease dt) := nofun

theorem abortMarkSent (dt : Nat) : Statement (.abortMarkSent dt) := nofun

end Sys2Proof.Laws.NoWord
end

