-- ==== Sys2Proof/Laws/Position.lean ====
section
/-! SUPPORT. What each layer of a slot boundary leaves in the Position Unit, and the unit after a boundary field by field. -/

namespace Sys2Proof.Machine

/-- R6, R7: the pitch check moves the flag and the missed-mark count alone. -/
@[simp] theorem pitch_frame (p : PositionUnit) (k : BoundaryKind) :
    (p.pitch k).acc = p.acc ∧ (p.pitch k).slotPulses = p.slotPulses ∧ (p.pitch k).cur = p.cur ∧
    (p.pitch k).pend = p.pend ∧ (p.pitch k).slot = p.slot ∧ (p.pitch k).step = p.step ∧
    (p.pitch k).overrun = p.overrun ∧ (p.pitch k).cond = p.cond ∧ (p.pitch k).seamFlag = p.seamFlag ∧
    (p.pitch k).good = p.good ∧ (p.pitch k).sinceBoundary = p.sinceBoundary ∧ (p.pitch k).period = p.period ∧
    (p.pitch k).trimSum = p.trimSum ∧ (p.pitch k).trimCount = p.trimCount ∧ (p.pitch k).trimOpen = p.trimOpen ∧
    (p.pitch k).synthesised = p.synthesised ∧ (p.pitch k).qual = p.qual ∧ (p.pitch k).pulseSeen = p.pulseSeen ∧
    (p.pitch k).watchdog = p.watchdog ∧ (p.pitch k).stepTimer = p.stepTimer := by
  unfold PositionUnit.pitch
  (repeat' split) <;> simp

/-- R18, R19: a taken slot moves the trim accumulator alone. -/
@[simp] theorem takeSlot_frame (p : PositionUnit) :
    p.takeSlot.1.acc = p.acc ∧ p.takeSlot.1.slotPulses = p.slotPulses ∧ p.takeSlot.1.cur = p.cur ∧
    p.takeSlot.1.pend = p.pend ∧ p.takeSlot.1.slot = p.slot ∧ p.takeSlot.1.step = p.step ∧
    p.takeSlot.1.overrun = p.overrun ∧ p.takeSlot.1.cond = p.cond ∧ p.takeSlot.1.seamFlag = p.seamFlag ∧
    p.takeSlot.1.slipFlag = p.slipFlag ∧ p.takeSlot.1.missed = p.missed ∧ p.takeSlot.1.good = p.good ∧
    p.takeSlot.1.sinceBoundary = p.sinceBoundary ∧ p.takeSlot.1.period = p.period ∧
    p.takeSlot.1.trimOpen = p.trimOpen ∧ p.takeSlot.1.synthesised = p.synthesised ∧ p.takeSlot.1.qual = p.qual ∧
    p.takeSlot.1.pulseSeen = p.pulseSeen ∧ p.takeSlot.1.watchdog = p.watchdog ∧
    p.takeSlot.1.stepTimer = p.stepTimer := by
  unfold PositionUnit.takeSlot PositionUnit.trimEmpty
  split <;> simp

/-- R18: the trim's work touches the trim accumulator alone. -/
@[simp] theorem trim_frame (p : PositionUnit) (k : BoundaryKind) (o : SeamOutcome) :
    (p.trim k o).1.acc = p.acc ∧ (p.trim k o).1.slotPulses = p.slotPulses ∧ (p.trim k o).1.cur = p.cur ∧
    (p.trim k o).1.pend = p.pend ∧ (p.trim k o).1.slot = p.slot ∧ (p.trim k o).1.step = p.step ∧
    (p.trim k o).1.overrun = p.overrun ∧ (p.trim k o).1.cond = p.cond ∧ (p.trim k o).1.seamFlag = p.seamFlag ∧
    (p.trim k o).1.slipFlag = p.slipFlag ∧ (p.trim k o).1.missed = p.missed ∧ (p.trim k o).1.good = p.good ∧
    (p.trim k o).1.sinceBoundary = p.sinceBoundary ∧ (p.trim k o).1.period = p.period ∧
    (p.trim k o).1.synthesised = p.synthesised ∧ (p.trim k o).1.qual = p.qual ∧
    (p.trim k o).1.pulseSeen = p.pulseSeen ∧ (p.trim k o).1.watchdog = p.watchdog ∧
    (p.trim k o).1.stepTimer = p.stepTimer := by
  unfold PositionUnit.trim PositionUnit.trimEmpty PositionUnit.trimAtSlip
  dsimp only
  (repeat' split) <;> simp

/-- R11: what synchronisation moves. -/
@[simp] theorem synchronise_frame (p : PositionUnit) (o : SeamOutcome) (w : Timer) :
    (p.synchronise o w).missed = (if o = .sync then 0 else p.missed) ∧
    (p.synchronise o w).good = (if o = .sync then 0 else p.good) ∧
    (p.synchronise o w).watchdog = (if o = .sync then w else p.watchdog) ∧
    (p.synchronise o w).acc = p.acc ∧ (p.synchronise o w).slotPulses = p.slotPulses ∧
    (p.synchronise o w).cur = p.cur ∧ (p.synchronise o w).pend = p.pend ∧ (p.synchronise o w).slot = p.slot ∧
    (p.synchronise o w).step = p.step ∧ (p.synchronise o w).overrun = p.overrun ∧ (p.synchronise o w).cond = p.cond ∧
    (p.synchronise o w).seamFlag = p.seamFlag ∧ (p.synchronise o w).slipFlag = p.slipFlag ∧
    (p.synchronise o w).sinceBoundary = p.sinceBoundary ∧ (p.synchronise o w).period = p.period ∧
    (p.synchronise o w).trimSum = p.trimSum ∧ (p.synchronise o w).trimCount = p.trimCount ∧
    (p.synchronise o w).trimOpen = p.trimOpen ∧ (p.synchronise o w).synthesised = p.synthesised ∧
    (p.synchronise o w).qual = p.qual ∧ (p.synchronise o w).pulseSeen = p.pulseSeen ∧
    (p.synchronise o w).stepTimer = p.stepTimer := by
  unfold PositionUnit.synchronise
  split <;> simp_all

/-- R15: the interval is a timer's restart. -/
@[simp] theorem restartInterval_frame (p : PositionUnit) :
    p.restartInterval.acc = p.acc ∧ p.restartInterval.slotPulses = p.slotPulses ∧ p.restartInterval.cur = p.cur ∧
    p.restartInterval.pend = p.pend ∧ p.restartInterval.slot = p.slot ∧ p.restartInterval.step = p.step ∧
    p.restartInterval.overrun = p.overrun ∧ p.restartInterval.cond = p.cond ∧
    p.restartInterval.seamFlag = p.seamFlag ∧ p.restartInterval.slipFlag = p.slipFlag ∧
    p.restartInterval.missed = p.missed ∧ p.restartInterval.good = p.good ∧
    p.restartInterval.sinceBoundary = p.sinceBoundary ∧ p.restartInterval.period = p.period ∧
    p.restartInterval.trimSum = p.trimSum ∧ p.restartInterval.trimCount = p.trimCount ∧
    p.restartInterval.trimOpen = p.trimOpen ∧ p.restartInterval.synthesised = p.synthesised ∧
    p.restartInterval.qual = p.qual ∧ p.restartInterval.pulseSeen = p.pulseSeen ∧
    p.restartInterval.watchdog = p.watchdog := by
  simp [PositionUnit.restartInterval]

/-- The Position Unit after a boundary, but for the trim accumulator and the interval. -/
@[simp] theorem atBoundary_fields (p : PositionUnit) (c : Settings) (w : Timer) (k : BoundaryKind) :
    (p.atBoundary c w k).acc = 0 ∧ (p.atBoundary c w k).slotPulses = 0 ∧
    (p.atBoundary c w k).cur = p.pend.getD p.cur ∧ (p.atBoundary c w k).pend = ((p.pitch k).trim k (p.seam c.slots)).2 ∧
    (p.atBoundary c w k).slot = (if (p.seam c.slots).discontinuous then 0 else (p.slot + 1) % c.slots) ∧
    (p.atBoundary c w k).step = k.carry c.guard ∧ (p.atBoundary c w k).overrun = 0 ∧
    (p.atBoundary c w k).cond = conditionAfter k (p.seam c.slots) (p.pitch k).missed p.cond ∧
    (p.atBoundary c w k).seamFlag = false ∧ (p.atBoundary c w k).slipFlag = (p.pitch k).slipFlag ∧
    (p.atBoundary c w k).missed = (if p.seam c.slots = .sync then 0 else (p.pitch k).missed) ∧
    (p.atBoundary c w k).good = (if p.seam c.slots = .sync then 0 else p.good) ∧
    (p.atBoundary c w k).sinceBoundary = some 0 ∧
    (p.atBoundary c w k).period = p.measure.period ∧
    (p.atBoundary c w k).trimSum = ((p.pitch k).trim k (p.seam c.slots)).1.trimSum ∧
    (p.atBoundary c w k).trimCount = ((p.pitch k).trim k (p.seam c.slots)).1.trimCount ∧
    (p.atBoundary c w k).trimOpen = ((p.pitch k).trim k (p.seam c.slots)).1.trimOpen ∧
    (p.atBoundary c w k).synthesised = (k == BoundaryKind.missed || k == BoundaryKind.free) ∧
    (p.atBoundary c w k).qual = (if k = .returning then none else p.qual) ∧
    (p.atBoundary c w k).pulseSeen = p.pulseSeen ∧
    (p.atBoundary c w k).watchdog = (if p.seam c.slots = .sync then w else p.watchdog) := by
  simp [PositionUnit.atBoundary, PositionUnit.newSlot, PositionUnit.load, PositionUnit.measure]

/-- R1, R7: the step length does not depend on the accumulator or the pulse counts. -/
@[simp] theorem countPulse_stepLength (p : PositionUnit) (w : Timer) : (p.countPulse w).stepLength = p.stepLength := rfl

/-- R2 to R4: the Position Unit after a boundary, whatever the receiving blocks do at its step event. -/
@[simp] theorem boundary_pos (s : State) (k : BoundaryKind) :
    (s.boundary k).pos = s.pos.atBoundary s.cfg s.watchdogStart k := by simp [State.boundary]

@[simp] theorem boundaryWithEvent_pos (s : State) (m : Samples) (k : BoundaryKind) :
    (s.boundaryWithEvent m k).pos = s.pos.atBoundary s.cfg s.watchdogStart k := by simp [State.boundaryWithEvent]

end Sys2Proof.Machine
end

