-- ==== Sys2Proof/WellFormed.lean ====
section
/-! DEFINITION. Which commands are well formed: what an event can bring, where the operand's type does not say it. -/

namespace Sys2Proof

/-- A sample reads all twelve receivers (R23), and each receiving block takes the event once (R4). -/
def Samples.wellFormed (smp : Samples) : Bool :=
  smp.curtain.length == 12 && smp.order.length == 4 &&
    [StepPart.gate, .fire, .verify, .track].all (smp.order.contains ·)

/-- A complete read has as many bytes as its first byte names (R176, R193): at least one, at most 255. -/
def recordComplete (memory : List Byte) : Bool :=
  match memory with
  | [] => false
  | len :: _ => memory.length == len.toNat

/-- A command that an event can be. -/
def Instr.wellFormed (i : Instr) : Bool :=
  match i with
  | .rawPulse _ smp => smp.wellFormed
  | .slatMark _ smp => smp.wellFormed
  | .fallbackStep _ smp => smp.wellFormed
  | .configReadComplete _ memory _ => recordComplete memory
  | .peerSilenceTimeout _ address => decide (1 ≤ address ∧ address ≤ 16)
  | .powerOnReset _ => true
  | .externalReset _ => true
  | .start _ _ => true
  | .attemptFailure _ => true
  | .configReadRetry _ => true
  | .seamReport _ => true
  | .encoderWatchdogExpiry _ => true
  | .beltRunChange _ _ => true
  | .coilWindowClose _ _ => true
  | .foreignAttentionPulseEnd _ => true
  | .pulseTimerExpiry _ _ => true
  | .recoveryTimerExpiry _ _ _ => true
  | .binSensorChange _ _ _ _ => true
  | .insertion _ _ => true
  | .removal _ _ => true
  | .fullSensorRise _ _ => true
  | .fullSensorFall _ _ => true
  | .binstatePeriodTimer _ => true
  | .openMark _ => true
  | .abortMark _ => true
  | .lineError _ _ => true
  | .frameTooLong _ => true
  | .closeMark _ => true
  | .lossEntry _ _ => true
  | .lossReturn _ => true
  | .recallTimerExpiry _ => true
  | .transmitterFree _ => true
  | .frameSent _ => true
  | .joiningRollRetry _ => true
  | .joinTimeout _ => true
  | .lossTimerExpiry _ _ => true
  | .severedRejoin _ => true
  | .statusPeriodTimer _ => true
  | .serviceKeyChange _ _ => true
  | .serviceKeyPress _ => true
  | .safetyChainOpening _ => true
  | .safetyChainClosing _ => true
  | .safeExit _ => true
  | .oscillatorEdge _ => true
  | .cellReceived _ _ => true
  | .keySettledRelease _ => true
  | .abortMarkSent _ => true

end Sys2Proof
end

