-- ==== Sys2Proof/Tests/Slice0.lean ====
section
/-! SUPPORT. Small tests: the checks of WellFormed, worked values of the spec, and for every statement with hypotheses a
state and operands that meet them, clause by clause, at the edges of their ranges. -/

namespace Sys2Proof.Tests
open Sys2Proof.Machine

/-! ### States to test on -/

/-- What a command leaves meets `p`. -/
def leaves (c : Instr) (s : State) (p : State → Bool) : Bool :=
  match exec c s with
  | .next t => p t
  | .fault _ => false
  | .refused _ => false

def binOne : BinSettings := ⟨true, true, true, 4, 10, 12, 100, 200, 64, 200, 260⟩
def binTwo : BinSettings := ⟨true, false, false, 5, 20, 12, 50, 100, 64, 300, 360⟩
def noBin : BinSettings := ⟨false, false, false, 0, 0, 0, 0, 0, 0, 0, 0⟩

def config : Settings :=
  { slots := 128, nominal := ⟨6, 20⟩, guard := 4, encoderMs := 100, gapBridge := 2, lMax := 128, windowMs := 2,
    coilFloor := 100, matchW := 8, exitX := 600, gateDist := 10, minSpeed := 64, hysteresis := 1, balance := 0x10#16,
    bins := ⟨binOne, binTwo, noBin, noBin⟩ }

/-- A configuration record that passes every check: the settings of `config` and two rules. -/
def recordHead : List Byte := [103#8, 0#8, 128#8, 0#8, 6#8, 20#8, 4#8, 100#8, 0#8, 2#8, 128#8, 0#8, 2#8, 100#8, 0#8, 8#8,
  88#8, 2#8, 10#8, 0#8, 64#8, 0#8, 1#8, 0x10#8, 0#8]
def recordBins : List Byte := [7#8, 4#8, 10#8, 0#8, 12#8, 100#8, 200#8, 0#8, 64#8, 0#8, 200#8, 0#8, 4#8, 1#8] ++
  [1#8, 5#8, 20#8, 0#8, 12#8, 50#8, 100#8, 0#8, 64#8, 0#8, 44#8, 1#8, 104#8, 1#8] ++ List.replicate 28 0#8
def recordRules : List Byte := [2#8, 0x84#8, 0xC1#8, 0#8, 16#8, 0x14#8, 0xC0#8, 0x03#8, 0#8, 0#8, 0#8] ++
  [0x05#8, 0xC1#8, 0#8, 16#8, 0x3D#8, 0xF0#8, 0x3F#8, 0x0A#8, 0xF0#8, 0xFF#8]
def recordBody : List Byte := recordHead ++ recordBins ++ recordRules
def goodRecord : List Byte := recordBody ++ [0#8 - recordBody.foldl (fun a b => a + b) 0#8]

def ruleOne : ClassRule := ⟨4, 20, 60, 1, 12, 0, 16, none⟩
def ruleTwo : ClassRule := ⟨5, 61, 1023, 1, 12, 0, 16, some (10, 4095)⟩

def openBin : BinRecord := ⟨.opened, 3, 1, false, false⟩

/-- Station 3 in RUN and NORMAL, joined, sending nothing, its slot at step 10 of slot 5. -/
def base : State :=
  { State.reset with
    cfg := config
    pos := { PositionUnit.reset with
      cond := .normal, cur := ⟨6, 20⟩, slot := 5, step := 10, period := some 320000, sinceBoundary := some 1000 }
    gate := { GateUnit.reset with state := .idle, windowTimer := some 1000000 }
    classifier := ⟨[ruleOne, ruleTwo], some 0x1234#16⟩
    bins := { BinUnit.reset with
      recs := Quad.all openBin, present := Quad.all ⟨true, none⟩, periodTimer := some 500000000 }
    port := { LoopPort.reset with link := .joined, relayDrive := true, rx := .idle, idleRun := 32, tx := .gap, txTimer := some 8000 }
    ltu := { LoopTraffic.reset with
      peers := [⟨3, 10, 0x1234#16, true, true, 0⟩, ⟨5, 40, 0x1234#16, true, true, 0⟩, ⟨6, 60, 0x9999#16, false, true, 0⟩] }
    ctl := { ModeController.reset 0 with
      mode := .run, phase := .ended, address := 3, clock := 5000, clockRunning := true, statusTimer := some 5000000000,
      lamp := .steady }
    pins := { Pins.initial with beltRun := true, binPresent := Quad.all true } }

def onPos (f : PositionUnit → PositionUnit) : State := base.setPos (f base.pos)
def onGate (f : GateUnit → GateUnit) : State := base.setGate (f base.gate)
def onPort (f : LoopPort → LoopPort) : State := base.setPort (f base.port)
def onLtu (f : LoopTraffic → LoopTraffic) : State := base.setLtu (f base.ltu)
def onCtl (f : ModeController → ModeController) : State := base.setCtl (f base.ctl)
def onBins (f : BinUnit → BinUnit) : State := base.setBins (f base.bins)
def onPins (f : Pins → Pins) : State := base.setPins (f base.pins)
def onTrk (f : TrackingUnit → TrackingUnit) : State := base.setTrk (f base.trk)
def onOne (f : Ejector → Ejector) : State := base.setEj (base.ej.set .bin1 (f (base.ej.get .bin1)))

/-- Where an item with its lead at 200 and the gate at 330 would be. -/
def samples : Samples := ⟨List.replicate 12 .clear, Quad.all false, false, [.gate, .fire, .verify, .track], []⟩

/-! ### WellFormed refuses an ill-formed command, one for each check -/

theorem test_refused_short_curtain :
    Instr.wellFormed (.rawPulse 0 { samples with curtain := List.replicate 11 .clear }) = false := by decide

theorem test_refused_repeated_part :
    Instr.wellFormed (.slatMark 0 { samples with order := [.gate, .gate, .verify, .track] }) = false := by decide

theorem test_refused_fifth_part :
    Instr.wellFormed (.fallbackStep 0 { samples with order := samples.order ++ [.gate] }) = false := by decide

theorem test_refused_empty_memory :
    Instr.wellFormed (.configReadComplete 0 [] (Quad.all true)) = false := by decide

theorem test_refused_short_memory :
    Instr.wellFormed (.configReadComplete 0 [2#8] (Quad.all true)) = false := by decide

theorem test_refused_peer_addresses :
    Instr.wellFormed (.peerSilenceTimeout 0 0) = false ∧ Instr.wellFormed (.peerSilenceTimeout 0 17) = false := by decide

theorem test_accepted_edges :
    Instr.wellFormed (.peerSilenceTimeout 0 1) = true ∧ Instr.wellFormed (.peerSilenceTimeout 0 16) = true ∧
      Instr.wellFormed (.rawPulse 0 samples) = true ∧ Instr.wellFormed (.configReadComplete 0 [1#8] (Quad.all true)) = true := by decide

/-! ### Worked values of the spec -/

theorem test_crc_check_value :
    crc16 [0x31#8, 0x32#8, 0x33#8, 0x34#8, 0x35#8, 0x36#8, 0x37#8, 0x38#8, 0x39#8] = 0x6F91#16 := by decide +kernel

theorem test_record_passes :
    settingsOf goodRecord = config ∧ rulesOf goodRecord = [ruleOne, ruleTwo] ∧ checkImage goodRecord = none := by decide +kernel

/-- The class table of section 3.8. -/
def trayTable : List ClassRule :=
  [⟨7, 4, 200, 1, 1, 0, 2, some (150, 900)⟩, ⟨13, 4, 200, 1, 3, 0, 4, some (901, 4095)⟩, ⟨6, 40, 120, 4, 10, 10, 16, none⟩,
    ⟨5, 60, 110, 4, 8, 0, 3, some (0, 40)⟩] ++
  [⟨4, 110, 170, 1, 2, 0, 3, some (0, 40)⟩, ⟨2, 171, 210, 1, 2, 0, 3, some (0, 40)⟩,
    ⟨1, 211, 290, 1, 3, 0, 3, some (0, 40)⟩, ⟨3, 120, 200, 3, 5, 0, 3, some (0, 40)⟩,
    ⟨13, 1, 299, 1, 12, 0, 16, some (41, 4095)⟩]

def item (length height dim metal : Nat) (basis : Option (Nat × Bool)) : ClassRequest :=
  ⟨length, height, dim, some metal, false, false, basis⟩

theorem test_tray_at_first_station :
    [item 248 2 0 1 none, item 190 1 0 310 none, item 70 9 13 2 none, item 140 6 0 1 none, item 90 1 0 1800 none,
      item 60 3 6 0 none, item 40 1 0 260 none].map (classify trayTable) = [1, 7, 6, 0, 13, 0, 7] := by decide +kernel

theorem test_tray_at_second_station :
    [item 40 2 0 260 (some (7, true)), item 75 3 12 2 (some (6, true)), item 60 3 6 0 (some (0, true)),
      item 140 6 0 1 (some (0, true))].map (classify trayTable) = [13, 6, 0, 0] := by decide +kernel

/-- The station of section 1.12 at a slot, step-in-slot and overrun. -/
def sectionOneTwelve (slot step overrun : Nat) : State :=
  { base with
    cfg := { config with slots := 400 }
    pos := { base.pos with slot := slot, step := step, overrun := overrun, cur := ⟨37, 10⟩ } }

theorem test_mark_early_row :
    leaves (.slatMark 0 samples) (sectionOneTwelve 212 61 0)
      (fun t => t.pos.slot == 213 && t.pos.gatePos == 13632 && t.pos.slipFlag && t.counters.pitchSlips == 1) = true := by decide +kernel

theorem test_mark_late_row :
    leaves (.slatMark 0 samples) (sectionOneTwelve 213 63 2)
      (fun t => t.pos.slot == 214 && t.pos.gatePos == 13696 && t.pos.slipFlag && t.counters.pitchSlips == 1) = true := by decide +kernel

theorem test_mark_missing_row :
    leaves (.rawPulse 0 samples)
      { sectionOneTwelve 214 63 3 with pos := { (sectionOneTwelve 214 63 3).pos with acc := 36 } }
      (fun t => t.pos.slot == 215 && t.pos.step == 3 && t.pos.gatePos == 13763 && t.pos.missed == 1) = true := by decide +kernel

/-! ### The tickets and lists of section 4.5 -/

def blank : Ticket := ⟨⟨3, 45⟩, 0, 30, false, 7, 1, 0, some 240, 1, some .noBin, 0, []⟩
def saucer : Ticket := { blank with id := ⟨2, 311⟩, lead := 10118, length := 128, cls := 4, metal := some 2 }
def cup : Ticket :=
  { blank with id := ⟨2, 312⟩, lead := 10250, length := 80, cls := 5, height := 6, metal := some 1, merged := [⟨1, 402⟩] }
def stacked : Detection := ⟨10116, 10258, 142, false, 6, 0, some 3⟩

theorem test_stack_merges :
    placement 25600 stacked [⟨saucer, true, 0⟩, ⟨cup, true, 0⟩] =
      ⟨{ saucer with lead := 10116, length := 142, height := 6, metal := some 3, merged := [⟨2, 312⟩, ⟨1, 402⟩] },
        none, false, false, .merges⟩ := by decide +kernel

/-! ### Witnesses: the queue, resets and START -/

theorem test_at_EmptyQueueIdles :
    base.pending = [] := by decide +kernel

theorem test_at_StartLatchesAndRetries_straps :
    State.reset.ctl.mode = .start ∧
    State.reset.ctl.phase = .inReset ∧
    State.reset.bins.asked = false ∧
    leaves (.start 5 0#4) State.reset (fun t => t.ctl.address == 1) = true ∧
    leaves (.start 5 15#4) State.reset (fun t => t.ctl.address == 16) = true := by decide +kernel

/-- In START, at a phase, with a number of failed attempts. -/
def starting (phase : StartPhase) (failures : Nat) : State :=
  State.reset.setCtl { State.reset.ctl with
    phase := phase, failures := failures, address := 3, retryTimer := if phase = .waiting then some 10000000 else none }

theorem test_at_StartLatchesAndRetries_attempts :
    (starting .reading 1).ctl.mode = .start ∧
    (starting .reading 1).ctl.phase = .reading ∧
    (starting .reading 1).ctl.failures < 2 ∧
    2 ≤ (starting .reading 2).ctl.failures ∧
    (starting .waiting 1).ctl.phase = .waiting ∧
    RunsOut (starting .waiting 1).ctl.retryTimer 10000000 ∧
    leaves (.attemptFailure 0) (starting .reading 2) (fun t => t.ctl.haltCode == 1) = true ∧
    leaves (.configReadRetry 10000000) (starting .waiting 1) (fun t => t.ctl.phase == .reading) = true := by
  and_intros <;> first | decide +kernel | exact ⟨_, rfl, by decide⟩

theorem test_at_FailedCheckHaltsWithItsCode :
    recordOf [1#8] = some [1#8] ∧
    checkImage [1#8] = some 2 ∧
    checkImage [2#8, 0xFE#8] = some 3 ∧
    leaves (.configReadComplete 0 [2#8, 0xFE#8] (Quad.all true)) (starting .reading 0) (fun t => t.ctl.haltCode == 3) = true := by decide +kernel

theorem test_at_PassedChecksEnterRun :
    recordOf goodRecord = some goodRecord ∧ checkImage goodRecord = none ∧ (starting .reading 0).pins.chainClosed = true ∧
    leaves (.configReadComplete 0 goodRecord (Quad.all true)) (starting .reading 0)
      (fun t => t.ctl.mode == .run && t.cfg == config && t.port.link == .joining) = true ∧
    leaves (.configReadComplete 0 goodRecord (Quad.all true))
      ((starting .reading 0).setPins { Pins.initial with chainClosed := false }) (fun t => t.ctl.mode == .safe) = true := by decide +kernel

theorem test_at_LineOrderCheck :
    checksumOk goodRecord = true ∧ rangesOk goodRecord = true ∧ config.lineOrderOk = true ∧
    { config with exitX := 360 }.lineOrderOk = false ∧ config.lineSequence = [200, 260, 300, 360, 600] ∧
    { config with lMax := 384 }.lineOrderOk = true ∧ { config with lMax := 386 }.lineOrderOk = false := by decide +kernel

/-! ### Witnesses: the belt -/

theorem test_at_SeamReportAndBeltRunLine_seam :
    base.running = true ∧
    base.bins.asked = false ∧
    leaves (.seamReport 0) base (fun t => t.pos.seamFlag) = true := by decide +kernel

theorem test_at_SeamReportAndBeltRunLine_line :
    false ≠ base.pins.beltRun ∧
    true ≠ (onPins fun p => { p with beltRun := false }).pins.beltRun ∧
    leaves (.beltRunChange 0 true) (onPins fun p => { p with beltRun := false }) (fun t => t.pos.watchdog == some 100000000) = true := by decide +kernel

def watched (c : Condition) : State := onPos fun p => { p with cond := c, watchdog := some 7, qual := some 3 }

theorem test_at_WatchdogExpiryEntersFallback :
    base.pins.beltRun = true ∧
    RunsOut (watched .normal).pos.watchdog 7 ∧ (watched .normal).pos.cond = .normal ∧
    RunsOut (watched .freeRun).pos.watchdog 7 ∧ (watched .freeRun).pos.cond = .freeRun ∧
    RunsOut (watched .unsynced).pos.watchdog 7 ∧ (watched .unsynced).pos.cond = .unsynced ∧
    RunsOut (watched .fallback).pos.watchdog 7 ∧ (watched .fallback).pos.cond = .fallback ∧
    leaves (.encoderWatchdogExpiry 7) (watched .freeRun) (fun t => t.pos.cond == .fallback) = true ∧
    leaves (.encoderWatchdogExpiry 7) (watched .fallback) (fun t => t.pos.qual == none) = true := by
  and_intros <;> first | decide +kernel | exact ⟨_, rfl, by decide⟩

theorem test_at_StepLengthsOfSlot :
    base.pos.cond ≠ .fallback ∧
    base.pos.overrun = 0 ∧
    base.pos.cur.m = 20 ∧
    (20 : Nat) ≤ 63 ∧
    (onPos fun p => { p with overrun := 1 }).pos.overrun ≠ 0 ∧
    (onPos fun p => { p with step := 19 }).pos.stepLength = 7 ∧
    (onPos fun p => { p with step := 20 }).pos.stepLength = 6 := by decide +kernel

theorem test_at_PulseWithinStepIsCounted :
    base.pos.acc + 1 < base.pos.stepLength ∧
    (onPos fun p => { p with acc := 5 }).pos.acc + 1 < (onPos fun p => { p with acc := 5 }).pos.stepLength ∧
    leaves (.rawPulse 0 samples) (onPos fun p => { p with acc := 5 }) (fun t => t.pos.acc == 6 && t.pos.step == 10) = true := by decide +kernel

/-- The pulse that completes a step has yet to come. -/
def ripe (c : Condition) (step overrun : Nat) : State :=
  onPos fun p => { p with acc := 6, cond := c, step := step, overrun := overrun, qual := if c = .fallback then some 2 else none }

theorem test_at_PulseCompletesStep :
    (ripe .normal 62 0).pos.stepLength ≤ 7 ∧ (ripe .normal 62 0).pos.step < 63 ∧ (ripe .normal 62 0).bins.asked = false ∧
    (ripe .fallback 63 0).pos.stepLength ≤ (ripe .fallback 63 0).pos.acc + 1 ∧
    (ripe .unsynced 63 2).pos.stepLength ≤ (ripe .unsynced 63 2).pos.acc + 1 ∧
    63 ≤ (ripe .unsynced 63 2).pos.step ∧ (ripe .unsynced 63 2).pos.overrun + 1 < config.guard ∧
    leaves (.rawPulse 0 samples) (ripe .normal 62 0) (fun t => t.pos.step == 63) = true ∧
    leaves (.rawPulse 0 samples) (ripe .fallback 63 0) (fun t => t.pos.qual == some 3) = true ∧
    leaves (.rawPulse 0 samples) (ripe .unsynced 63 2) (fun t => t.pos.overrun == 3) = true := by decide +kernel

def seamed (s : State) : State := s.setPos { s.pos with seamFlag := true }

theorem test_at_MissedMarkAndFreeRunBoundaries_missed :
    config.guard ≤ (ripe .normal 63 3).pos.overrun + 1 ∧
    (ripe .normal 63 3).pos.stepLength ≤ (ripe .normal 63 3).pos.acc + 1 ∧
    leaves (.rawPulse 0 samples) (ripe .normal 63 3) (fun t => t.pos.slot == 6 && t.pos.cond == .normal) = true ∧
    leaves (.rawPulse 0 samples) ((ripe .normal 63 3).setPos { (ripe .normal 63 3).pos with missed := 1 }) (fun t => t.pos.cond == .freeRun) = true ∧
    leaves (.rawPulse 0 samples) (seamed (ripe .unsynced 63 3)) (fun t => t.pos.slot == 0 && t.pos.cond == .normal) = true ∧
    leaves (.rawPulse 0 samples) (ripe .unsynced 63 3) (fun t => t.pos.cond == .unsynced) = true := by decide +kernel

theorem test_at_MissedMarkAndFreeRunBoundaries_free :
    (ripe .freeRun 63 0).pos.stepLength ≤ (ripe .freeRun 63 0).pos.acc + 1 ∧
    63 ≤ (ripe .freeRun 63 0).pos.step ∧
    leaves (.rawPulse 0 samples) (ripe .freeRun 63 0) (fun t => t.pos.slot == 6) = true ∧
    leaves (.rawPulse 0 samples) (seamed (ripe .freeRun 63 0)) (fun t => t.pos.slot == 0) = true := by decide +kernel

/-- After a boundary, synthesised or not, at a step. -/
def slotStep (c : Condition) (synthesised : Bool) (step : Nat) : State :=
  onPos fun p => { p with cond := c, synthesised := synthesised, step := step }

theorem test_at_MarkMakesBoundary :
    (slotStep .normal false 0).pos.synthesised = false ∧
    (slotStep .normal true 4).pos.synthesised = true ∧ config.guard ≤ (slotStep .normal true 4).pos.step ∧
    (slotStep .normal false 0).pos.sinceBoundary = some 1000 ∧
    leaves (.slatMark 0 samples) (slotStep .normal true 4) (fun t => t.pos.slot == 6 && t.pos.slipFlag) = true ∧
    leaves (.slatMark 0 samples) (slotStep .normal false 62) (fun t => t.pos.slipFlag == false) = true ∧
    leaves (.slatMark 0 samples) (slotStep .normal false 61) (fun t => t.pos.slipFlag) = true ∧
    leaves (.slatMark 0 samples) (seamed (slotStep .unsynced false 63)) (fun t => t.pos.slot == 0 && t.pos.cond == .normal) = true ∧
    leaves (.slatMark 0 samples) (seamed (slotStep .normal false 63)) (fun t => t.pos.slot == 0 && t.counters.pitchSlips == 1) = true := by decide +kernel

theorem test_at_MarksThatMakeNoBoundary :
    (slotStep .unsynced true 3).pos.step < config.guard ∧
    (slotStep .unsynced true 3).bins.asked = false ∧
    leaves (.slatMark 0 samples) (slotStep .unsynced true 3) (fun t => t.pos.slot == 5) = true ∧
    leaves (.slatMark 0 samples) (slotStep .freeRun false 2) (fun t => t.pos.good == 0) = true ∧
    leaves (.slatMark 0 samples) (slotStep .freeRun false 63) (fun t => t.pos.good == 1) = true ∧
    leaves (.slatMark 0 samples) ((slotStep .freeRun false 1).setPos { (slotStep .freeRun false 1).pos with good := 3 }) (fun t => t.pos.cond == .normal) = true := by decide +kernel

/-- In FALLBACK with a qualification of so many completed steps. -/
def qualifying (q : Option Nat) : State :=
  onPos fun p => { p with cond := .fallback, qual := q, step := 63, pulseSeen := true, watchdog := some 9 }

theorem test_at_FallbackMarkMakesBoundary :
    leaves (.slatMark 0 samples) (qualifying (some 62)) (fun t => t.pos.cond == .normal) = true ∧
    leaves (.slatMark 0 samples) (qualifying (some 64)) (fun t => t.pos.cond == .normal) = true ∧
    leaves (.slatMark 0 samples) (qualifying (some 61)) (fun t => t.pos.cond == .fallback) = true ∧
    leaves (.slatMark 0 samples) (qualifying (some 65)) (fun t => t.pos.cond == .fallback) = true ∧
    leaves (.slatMark 0 samples) (qualifying none) (fun t => t.pos.qual == some 0 && t.pos.slot == 6) = true ∧
    leaves (.slatMark 0 samples) (seamed (qualifying none)) (fun t => t.pos.slot == 0) = true := by decide +kernel

def stepping (step : Nat) : State := onPos fun p => { p with cond := .fallback, step := step, stepTimer := some 5000000 }

theorem test_at_FallbackStepAdvancesGate :
    RunsOut (stepping 62).pos.stepTimer 5000000 ∧
    (stepping 62).pos.step < 63 ∧
    base.pins.beltRun = true ∧
    leaves (.fallbackStep 5000000 samples) (stepping 62) (fun t => t.pos.step == 63 && t.pos.stepTimer == none) = true ∧
    leaves (.fallbackStep 5000000 samples) (stepping 61) (fun t => t.pos.step == 62 && t.pos.stepTimer == some 5000000) = true := by
  and_intros <;> first | decide +kernel | exact ⟨_, rfl, by decide⟩

theorem test_at_BoundaryCountsPitchSlips :
    (slotStep .normal false 61).pos.slips = true ∧
    (slotStep .normal false 62).pos.slips = false ∧
    (seamed base).pos.seamFlag = true ∧ (seamed base).pos.slot + 1 ≠ config.slots ∧
    (State.boundary (seamed (slotStep .normal false 61)) .marked).counters.pitchSlips = 2 ∧
    (State.boundary (seamed (slotStep .freeRun false 63)) .free).counters.pitchSlips = 1 ∧
    (State.boundary (slotStep .freeRun false 63) .free).counters.pitchSlips = 0 ∧
    (State.boundary (slotStep .normal false 63) .missed).counters.pitchSlips = 1 := by decide +kernel

/-- A slot of the trim about to close, the sum of the slots before it given. -/
def trimming (sum taken pulses : Nat) : State :=
  onPos fun p => { p with cur := ⟨37, 10⟩, step := 63, trimOpen := true, trimSum := sum, trimCount := taken, slotPulses := pulses }

theorem test_at_TrimWindowGivesPair :
    (trimming 35681 15 2379).pos.trimOpen = true ∧ (trimming 35681 15 2379).pos.seam config.slots ≠ .slip ∧
    (State.boundary (trimming 35681 15 2379) .marked).pos.pend = some ⟨37, 11⟩ ∧
    (State.boundary (trimming 35670 15 2378) .marked).pos.pend = none ∧
    (State.boundary (trimming 33302 14 2379) .marked).pos.trimCount = 15 ∧
    (State.boundary (trimming 0 15 1015) .marked).pos.pend = none ∧ (State.boundary (trimming 0 15 1016) .marked).pos.pend = some ⟨1, 0⟩ ∧
    (State.boundary (onPos fun p => { p with pend := some ⟨37, 11⟩ }) .free).retention.pair = ⟨37, 11⟩ ∧
    (seamed base).pos.seam config.slots = .slip := by decide +kernel

/-! ### Witnesses: the gate and the classifier -/

def windowAt (count low good : Nat) (fault : Bool) : State :=
  onGate fun g => { g with windowCount := count, lowRun := low, goodRun := good, coilFault := fault }

theorem test_at_CoilWindowCountsAndCloses :
    RunsOut (windowAt 99 1 0 false).gate.windowTimer 1000000 ∧
    (windowAt 99 1 0 false).gate.windowCount < config.coilFloor ∧
    config.coilFloor ≤ (windowAt 100 0 3 true).gate.windowCount ∧
    leaves (.oscillatorEdge 0) (windowAt 65535 0 0 false) (fun t => t.gate.windowCount == 65535) = true ∧
    leaves (.coilWindowClose 1000000 ⟨false, []⟩) (windowAt 99 1 0 false) (fun t => t.gate.coilFault) = true ∧
    leaves (.coilWindowClose 1000000 ⟨true, []⟩) (windowAt 100 0 3 true) (fun t => t.gate.coilFault == false) = true := by
  and_intros <;> first | decide +kernel | exact ⟨_, rfl, by decide⟩

/-- A coil window that has been clear, with a baseline and a tally. -/
def clearWindow (count : Nat) (baseline : Option Nat) (tally : Nat) : State :=
  onGate fun g => { g with windowCount := count, windowClear := true, baseline := baseline, tally := tally, baseSum := 700,
                           detection := some ⟨100, none, 3, 5, 0, some 2⟩ }

theorem test_at_CoilWindowCountsAndCloses_baseline :
    config.coilFloor ≤ (clearWindow 100 none 7).gate.windowCount ∧ (clearWindow 65534 none 7).gate.windowCount < 65535 ∧
    leaves (.coilWindowClose 1000000 ⟨false, []⟩) (clearWindow 100 none 7) (fun t => t.gate.baseline == some 100) = true ∧
    leaves (.coilWindowClose 1000000 ⟨false, []⟩) (clearWindow 100 none 6) (fun t => t.gate.baseline == none && t.gate.tally == 7) = true ∧
    leaves (.coilWindowClose 1000000 ⟨false, []⟩) (clearWindow 4690 (some 5000) 8)
      (fun t => t.gate.baseline == some 4962 && t.gate.detection == some ⟨100, none, 3, 5, 0, some 310⟩) = true ∧
    leaves (.coilWindowClose 1000000 ⟨false, []⟩) (clearWindow 9500 (some 5000) 8)
      (fun t => t.gate.detection == some ⟨100, none, 3, 5, 0, some 4095⟩) = true ∧
    leaves (.coilWindowClose 1000000 ⟨true, []⟩) (clearWindow 4690 (some 5000) 8) (fun t => t.gate.baseline == some 5000) = true ∧
    leaves (.coilWindowClose 1000000 ⟨false, []⟩) (clearWindow 65535 (some 5000) 8) (fun t => t.gate.overRange && t.gate.baseline == some 5000) = true := by decide +kernel

theorem test_at_BeamsMaskAndUnmask :
    (⟨false, 1022, 0⟩ : Beam).update .dim 1 = ⟨false, 1023, 0⟩ ∧
    (⟨false, 1023, 0⟩ : Beam).update .blocked 1 = ⟨true, 1024, 0⟩ ∧
    (⟨true, 1024, 62⟩ : Beam).update .clear 1 = ⟨true, 1024, 63⟩ ∧
    ((⟨true, 1024, 63⟩ : Beam).update .clear 1).masked = false ∧
    (⟨true, 1024, 63⟩ : Beam).update .blocked 1 = ⟨true, 1024, 0⟩ ∧
    base.gate.state ≠ .held ∧ base.pins.curtain.length = base.gate.beams.length ∧
    base.gate.beams[11]? = some ⟨false, 0, 0⟩ ∧ base.pins.curtain[11]? = some .clear := by decide +kernel

def busySample : CurtainSample := ⟨2, 1, 7⟩
def clearCurtain : CurtainSample := ⟨0, 0, 0⟩
def opening (r : OpenRecord) : State := onGate fun g => { g with state := .opened, detection := some r }
def openAt (clearStart : Option Nat) : State := opening ⟨100, clearStart, 3, 5, 0, none⟩

theorem test_at_SamplesOpenAndCloseDetections :
    busySample.occupied = true ∧ clearCurtain.occupied = false ∧
    base.gate.state = .idle ∧
    (onGate fun g => { g with state := .waitClear }).gate.state = .waitClear ∧
    (openAt none).gate.detection = some ⟨100, none, 3, 5, 0, none⟩ ∧
    posSub config.span 227 100 < config.lMax ∧ config.lMax ≤ posSub config.span 228 100 ∧
    (State.detect (openAt none) 227 busySample).gate.state = .opened ∧
    (State.detect (openAt none) 228 busySample).gate.state = .waitClear ∧
    (State.detect (openAt none) 228 clearCurtain).gate.completing = [⟨100, 228, 128, true, 3, 0, none⟩] ∧
    (State.detect (openAt (some 226)) 228 clearCurtain).gate.completing = [⟨100, 226, 126, false, 3, 0, none⟩] ∧
    (State.detect (openAt (some 226)) 227 clearCurtain).gate.state = .opened := by decide +kernel

theorem test_at_ClassCodeByFirstMatch :
    ruleOne.matches (item 20 1 16 0 none) = true ∧
    ruleOne.matches (item 19 1 16 0 none) = false ∧
    ruleTwo.matches (item 61 12 0 10 none) = true ∧
    ruleTwo.matches (item 61 12 0 9 none) = false ∧
    [ruleOne, ruleTwo] = [ruleOne] ++ ruleTwo :: [] ∧
    ∀ x ∈ [ruleOne], x.matches (item 61 12 0 10 none) = false ∧
    ∀ x ∈ [ruleOne, ruleTwo], x.matches (item 61 12 0 9 none) = false ∧
    classify [ruleOne, ruleTwo] { item 30 1 0 0 none with forced := true } = 0 ∧
    classify [ruleOne, ruleTwo] { item 30 1 0 0 none with overlong := true } = 0 := by decide +kernel

/-! ### Witnesses: tickets and items -/

theorem test_at_PlacementByCandidates :
    cup.merged.length ≤ 3 ∧
    (placement 8192 stacked []).stray = true ∧
    (placement 25600 stacked [⟨saucer, true, 0⟩]).basis = some (4, true) := by decide +kernel

/-- The gate position of `base` is 330; a ticket `d` steps from it. -/
def distant (n : Nat) : Ticket := { blank with lead := n }
def arriving (k : Ticket) (s : State) : State := s.ticketArrival 5 (encodeTicket k false)
def expecting (l : List ExpectEntry) : State := onTrk fun u => { u with expect := l }
def far (n serial : Nat) : ExpectEntry := ⟨{ blank with id := ⟨9, serial⟩, lead := n }, true, 0⟩
def full32 : State := expecting ((List.range 32).map (fun k => far (400 + k) k))
def carrying (e : TransitEntry) : State := onTrk fun u => { u with transit := [e] }
def passing (k : Ticket) : TransitEntry := ⟨k, 7, .pass .noBin, true, false, false⟩
def strayEntry : TransitEntry := passing { blank with id := ⟨3, 9⟩, lead := 318 }

theorem test_at_TicketArrivalFate_tests :
    (decodeTicket (encodeTicket (distant 322) false)) = distant 322 ∧
    (distant 322).contentOk = true ∧
    { distant 322 with length := 0 }.contentOk = false ∧
    base.pos.cond ≠ .unsynced ∧
    base.dist 322 = -8 ∧ base.dist 321 = -9 ∧ base.dist 2378 = 2048 ∧ base.dist 2379 = 2049 ∧
    (arriving (distant 2379) base).counters.untracked = 1 ∧
    (arriving (distant 2378) base).trk.expect.length = 1 ∧
    (arriving (distant 322) base).trk.expect.length = 1 ∧
    (arriving (distant 330) (carrying (passing (distant 330)))).counters.untracked = 1 ∧
    (arriving (distant 330) (onPos fun p => { p with cond := .unsynced })).counters.untracked = 1 := by decide +kernel

theorem test_at_TicketArrivalFate_lists :
    full32.trk.expect.length = 32 ∧ full32.trk.expect.getLast? = some (far 431 31) ∧
    (arriving (distant 431) full32).counters.untracked = 1 ∧
    (arriving (distant 430) full32).trk.expect.length = 32 ∧
    (arriving (distant 330) (expecting [⟨distant 400, false, 0⟩])).trk.expect = [⟨distant 330, true, 5000⟩] ∧
    (arriving (distant 321) (expecting [⟨distant 400, false, 0⟩])).counters.untracked = 1 := by decide +kernel

theorem test_at_TicketArrivalFate_late :
    (arriving (distant 321) base).counters.lateDropped = 1 ∧
    (arriving (distant 321) (carrying strayEntry)).counters.adopted = 1 ∧
    (State.ticketArrival (onPos fun p => { p with slot := 10, step := 0 }) 5 (encodeTicket (distant 39) false)).counters.lateDropped = 1 := by decide +kernel

theorem test_at_ExpiryAndHandOver :
    (expecting [far 321 1, far 322 2]).expireAtStep.trk.expect = [far 322 2] ∧
    (expecting [far 321 1, far 322 2]).expireAtStep.counters.lost = 1 ∧
    ((expecting [far 300 1, far 312 2]).openedNotice 320).expireAfterPlacement.trk.expect = [far 312 2] ∧
    ((expecting [far 300 1]).openedNotice 320).trk.link ≠ [] ∧
    base.trk.holdsId ⟨base.ctl.address, base.trk.serial⟩ = false ∧
    (base.advanceSerial 4095).trk.serial = 0 ∧
    (onPos fun p => { p with cond := .unsynced }).pos.cond = .unsynced := by decide +kernel

def leaving (k : Ticket) (blocked : Bool) : State := carrying { passing k with exitBlocked := blocked, exitDone := true }
def last (s : State) : State := s.setLtu { s.ltu with peers := s.ltu.peers.take 1 }

theorem test_at_ExitDecidesPassedEntries :
    (leaving blank true).entry 7 = some { passing blank with exitBlocked := true, exitDone := true } ∧
    (carrying (passing blank)).entry 7 = some (passing blank) ∧
    ((leaving blank false).decideExit 7).counters.vanished = 1 ∧
    (last (leaving { blank with cls := 13 } true)).nextPeer = none ∧
    ((last (leaving { blank with cls := 13 } true)).decideExit 7).trk.foreignPulse = some 2000000000 ∧
    (leaving blank true).nextPeer = some ⟨5, 40, 0x1234#16, true, true, 0⟩ ∧
    ((leaving blank true).decideExit 7).counters.passedToPeer = 1 := by decide +kernel

theorem test_at_FlushEmptiesListsAndWatches :
    base.counters.get .flushed ≤ 65535 ∧
    ({ (carrying (passing blank)) with counters := { Counters.reset with flushed := 65535 } } : State).flush.counters.flushed = 65535 := by decide +kernel

/-! ### Witnesses: decision and ejection -/

def ofClass (c : Nat) : Ticket := { blank with lead := 300, cls := c }
def inMode (m : Mode) : State := onCtl fun c => { c with mode := m }

theorem test_at_DecisionTests :
    (inMode .safe).ctl.mode = .safe ∧
    (inMode .service).ctl.mode = .service ∧
    (onPos fun p => { p with cond := .freeRun }).pos.cond ≠ .normal ∧
    (base.decision 1 (ofClass 0)).2 = .pass .noSort ∧ (base.decision 1 (ofClass 13)).2 = .pass .noSort ∧
    (base.decision 1 { ofClass 4 with missed := 2 }).2 = .pass .noSort ∧
    ∀ b, (base.binCfg b).configured = true → (base.binCfg b).cls ≠ 6 ∧
    (base.decision 1 (ofClass 6)).2 = .pass .noBin ∧
    (base.decision 1 (ofClass 4)).2 = .scheduled .bin1 515 := by
  and_intros <;> first | decide +kernel | (intro b; cases b <;> decide)

def offer (fill pending : Nat) : BoardEntry := ⟨5, 1, 5, .opened, fill, pending, 16, false, false, true, true, false, 4000⟩
def offered (e : BoardEntry) : State := onBins fun u => { u with board := [e] }

theorem test_at_BinChoiceByLevelAndBalance :
    base.lowestBin [.bin1, .bin2] = some .bin2 ∧
    base.cfg.balance.getLsbD (4 - 1) = false ∧
    base.cfg.balance.getLsbD (5 - 1) = true ∧
    (offered (offer 1 1)).offering 5 (offer 1 1) = true ∧
    (offered (offer 1 1)).balanceTakes 5 .bin2 = true ∧
    (offered (offer 0 1)).binLevel .bin2 = 3 ∧
    (offered (offer 0 1)).balanceTakes 5 .bin2 = false ∧
    base.balanceTakes 5 .bin2 = true := by decide +kernel

def booked : TransitEntry := ⟨ofClass 4, 7, .scheduled .bin1 515, false, false, false⟩
def slow (s : State) : State := s.setPos { s.pos with period := some 2000000 }

theorem test_at_FireHeadOutcomes :
    (carrying booked).entry 7 = some booked ∧
    booked.exitDone = false ∧
    (slow (carrying booked)).pos.speed = 32 ∧ (32 : Nat) < config.minSpeed ∧
    (carrying booked).pos.speed = 200 ∧
    ((carrying booked).ej.get .bin1).state = .ready ∧
    (((slow (carrying booked)).fireHead .bin1 ⟨7, 515⟩).entry 7).map (fun e => e.state) = some (.pass .slow) ∧
    ((((carrying booked).setEj (Quad.all { Ejector.reset with state := .recovering })).fireHead .bin1 ⟨7, 515⟩).entry 7).map (fun e => e.state) = some (.pass .busy) ∧
    (((carrying booked).fireHead .bin1 ⟨7, 515⟩).ej.get .bin1).shadow = true := by decide +kernel

def watching (blocked detached : Bool) : WatchItem := ⟨7, 560, 30, blocked, detached, false, false⟩
def missing (n : Nat) : State := onOne fun e => { e with misses := n }

theorem test_at_VerifyOutcomes :
    0 < (base.bins.recs.get .bin1).pending ∧
    ((base.verifyItem .bin1 (watching false false)).bins.recs.get .bin1).fill = 4 ∧
    (base.verifyItem .bin1 (watching false true)).bins = base.bins ∧
    ((base.verifyItem .bin1 (watching true false)).ej.get .bin1).misses = 1 ∧
    ((missing 1).ej.get .bin1).misses = 1 ∧ ((missing 1).ej.get .bin1).state ≠ .fault ∧
    (((missing 1).verifyItem .bin1 (watching true false)).ej.get .bin1).state = .fault := by decide +kernel

/-- The step event to 10, two positions on, and the same across the belt's end at 100. -/
def toTen : StepEvent := ⟨10, some 2, false⟩
def overEnd : StepEvent := ⟨1, some 2, false⟩
def sampledItem : WatchItem := ⟨7, 10, 3, false, false, false, false⟩

theorem test_at_SamplesJudgeExtents :
    (8 + 2) % 100 = toTen.pos ∧ (99 + 2) % 100 = overEnd.pos ∧
    [8, 9, 10, 11].map (toTen.covers 100) = [false, true, true, false] ∧
    [99, 0, 100, 1, 2].map (overEnd.covers 100) = [false, true, true, true, false] ∧
    ((sampledItem.sampled toTen 100 true).blocked = true ∧ ({ sampledItem with start := 11 }.sampled toTen 100 true).blocked = false) ∧
    { sampledItem with start := 8 }.decided toTen 100 = true ∧ { sampledItem with start := 9 }.decided toTen 100 = false ∧
    (⟨10, none, true⟩ : StepEvent).adv = none ∧
    { sampledItem with overdue := true }.decided ⟨10, none, true⟩ 100 = false ∧
    { sampledItem with overdue := true }.decided toTen 100 = true ∧ { sampledItem with fresh := true }.decided toTen 100 = false ∧
    ∀ e ∈ (carrying booked).trk.transit, e.state.isPass = false := by decide +kernel

def pulsing : State := onOne fun e => { e with state := .pulsing, shadow := true, pulse := some 100 }
def recovering : State := onOne fun e => { e with state := .recovering, recovery := some 100 }

theorem test_at_EjectorTimersEnd_pulse :
    (pulsing.ej.get .bin1).state = .pulsing ∧
    RunsOut (pulsing.ej.get .bin1).pulse 100 ∧
    pulsing.bins.asked = false ∧
    leaves (.pulseTimerExpiry 100 .bin1) pulsing (fun t => (t.ej.get .bin1).recovery == some 200000000) = true := by
  and_intros <;> first | decide +kernel | exact ⟨_, rfl, by decide⟩

theorem test_at_EjectorTimersEnd_recovery :
    (recovering.ej.get .bin1).state = .recovering ∧
    RunsOut (recovering.ej.get .bin1).recovery 100 ∧
    (recovering.binCfg .bin1).homeFitted = true ∧ (recovering.binCfg .bin2).homeFitted = false ∧
    leaves (.recoveryTimerExpiry 100 .bin1 true) recovering (fun t => (t.ej.get .bin1).state == .ready) = true ∧
    leaves (.recoveryTimerExpiry 100 .bin1 false) recovering (fun t => (t.ej.get .bin1).state == .fault) = true := by
  and_intros <;> first | decide +kernel | exact ⟨_, rfl, by decide⟩

/-! ### Witnesses: bins -/

theorem test_at_SensorChangeStartsSettling :
    false ≠ base.pins.binSensor .bin1 .present ∧
    true ≠ base.pins.binSensor .bin2 .full ∧
    base.reads .bin1 .present = true ∧ base.reads .bin2 .full = false ∧
    leaves (.binSensorChange 0 .bin1 .present false) base (fun t => (t.bins.present.get .bin1).timer == some 100000000) = true ∧
    leaves (.binSensorChange 0 .bin1 .full true) base (fun t => (t.bins.full.get .bin1).timer == some 300000000) = true := by decide +kernel

/-- Bin 1's bin-present sensor has settled at `was` and now reads the other level. -/
def turning (was : Bool) (r : BinRecord) (q : Option (Quad SnapshotSlot)) : State :=
  let s := onBins fun u => { u with
    present := u.present.set .bin1 ⟨was, some 100000000⟩, recs := u.recs.set .bin1 r, snapshot := q }
  s.setPins { s.pins with binPresent := s.pins.binPresent.set .bin1 (!was) }
def absentBin : BinRecord := ⟨.absent, 0, 0, true, false⟩
def visit : Option (Quad SnapshotSlot) := some (Quad.all ⟨.opened, .kept⟩)
def removed : State := turning true openBin none
def inserted : State := turning false absentBin none

theorem test_at_InsertionEmptiesRecord :
    (inserted.binCfg .bin1).configured = true ∧
    RunsOut (inserted.bins.present.get .bin1).timer 100000000 ∧
    inserted.pins.binPresent.get .bin1 = true ∧
    (inserted.bins.recs.get .bin1).state = .absent ∧ (inserted.bins.recs.get .bin1).unverified = true ∧
    (inserted.bins.present.get .bin1).settled = false ∧
    leaves (.insertion 100000000 .bin1) inserted (fun t => (t.bins.recs.get .bin1).state == .opened) = true ∧
    leaves (.insertion 100000000 .bin1) (turning false absentBin visit) (fun t => (t.bins.recs.get .bin1).state == .held) = true := by
  and_intros <;> first | decide +kernel | exact ⟨_, rfl, by decide⟩

theorem test_at_RemovalCancelsAndDetaches :
    RunsOut (removed.bins.present.get .bin1).timer 100000000 ∧
    (removed.bins.present.get .bin1).settled = true ∧
    removed.pins.binPresent.get .bin1 = false ∧
    (removed.bins.recs.get .bin1).state ≠ .absent ∧
    leaves (.removal 100000000 .bin1) removed (fun t => (t.bins.recs.get .bin1).state == .absent) = true ∧
    leaves (.removal 100000000 .bin1) (turning true openBin visit) (fun t => t.bins.snapshot == some ((Quad.all ⟨.opened, .kept⟩).set .bin1 ⟨.absent, .replaced⟩)) = true := by
  and_intros <;> first | decide +kernel | exact ⟨_, rfl, by decide⟩

/-- Bin 1's full sensor has settled at `was` and now reads the other level. -/
def fullTurning (was : Bool) (r : BinRecord) : State :=
  let s := onBins fun u => { u with full := u.full.set .bin1 ⟨was, some 300000000⟩, recs := u.recs.set .bin1 r }
  s.setPins { s.pins with binFull := s.pins.binFull.set .bin1 (!was) }
def fullAt (fill : Nat) : State := fullTurning true ⟨.full, fill, 0, false, false⟩

theorem test_at_FullSensorMovesState :
    RunsOut ((fullTurning false openBin).bins.full.get .bin1).timer 300000000 ∧
    (base.binCfg .bin1).fullFitted = true ∧
    RunsOut ((fullAt 9).bins.full.get .bin1).timer 300000000 ∧
    leaves (.fullSensorRise 300000000 .bin1) (fullTurning false openBin) (fun t => (t.bins.recs.get .bin1).state == .full) = true ∧
    leaves (.fullSensorRise 300000000 .bin1) (fullTurning false absentBin) (fun t => (t.bins.recs.get .bin1).state == .absent) = true ∧
    leaves (.fullSensorFall 300000000 .bin1) (fullAt 7) (fun t => (t.bins.recs.get .bin1).state == .opened) = true ∧
    leaves (.fullSensorFall 300000000 .bin1) (fullAt 8) (fun t => (t.bins.recs.get .bin1).state == .near) = true ∧
    leaves (.fullSensorFall 300000000 .bin1) (fullAt 10) (fun t => (t.bins.recs.get .bin1).state == .full) = true := by
  and_intros <;> first | decide +kernel | exact ⟨_, rfl, by decide⟩

theorem test_at_BinstatePeriodQueuesFrame :
    RunsOut base.bins.periodTimer 500000000 ∧
    base.port.link ≠ .bypassed ∧
    base.port.tx ≠ .free ∧
    base.ltu.ownQueue = [] ∧
    leaves (.binstatePeriodTimer 500000000) base (fun t => t.ltu.ownQueue.map (fun f => f.kind) == [0x33]) = true := by
  and_intros <;> first | decide +kernel | exact ⟨_, rfl, by decide⟩

/-! ### Witnesses: the line -/

/-- The receiver in a state, with bytes and bits gathered and an idle run. -/
def receiving (rx : RxState) (buffer : List Byte) (bits : List Bool) (idle : Nat) : State :=
  onPort fun p => { p with rx := rx, buffer := buffer, bits := bits, idleRun := idle }
def longBuffer : List Byte := List.replicate 67 0#8

theorem test_at_MarksAndErrorsOpenAndDiscardFrames :
    base.listening = true ∧
    base.port.violationRun = 0 ∧
    base.port.rx = .idle ∧
    (receiving .loss [] [] 30).port.idleRun < 31 ∧
    (receiving .frame longBuffer (List.replicate 7 true) 0).port.buffer.length = 67 ∧
    leaves (.openMark 0) base (fun t => t.port.rx == .frame) = true ∧
    leaves (.abortMark 0) (receiving .frame [1#8] [] 0) (fun t => t.counters.lineDrops == 1) = true ∧
    leaves (.lineError 0 .violationInByte) (receiving .frame [1#8] [true] 0) (fun t => t.port.rx == .idle) = true ∧
    leaves (.lineError 0 .strayEmpty) (receiving .frame [1#8] [] 0) (fun t => t.port.rx == .idle) = true ∧
    leaves (.frameTooLong 0) (receiving .frame longBuffer (List.replicate 7 true) 0) (fun t => t.port.rx == .idle) = true ∧
    leaves (.closeMark 0) (receiving .loss [] [] 30) (fun t => t.port.rx == .loss) = true := by decide +kernel

theorem test_at_CellsGatherBitsAndIdle :
    leaves (.cellReceived 0 .one) (receiving .frame [] (List.replicate 6 false) 0) (fun t => t.port.bits.length == 7) = true ∧
    leaves (.cellReceived 0 .one) (receiving .frame (longBuffer.drop 1) (List.replicate 7 false) 0) (fun t => t.port.buffer == longBuffer.drop 1 ++ [0x80#8]) = true ∧
    leaves (.cellReceived 0 .one) (receiving .loss [] [] 30) (fun t => t.port.idleRun == 31) = true ∧
    leaves (.cellReceived 0 .zero) (receiving .loss [] [] 31) (fun t => t.port.idleRun == 0) = true ∧
    CellClass.zero ≠ CellClass.one ∧ (receiving .loss [] [] 31).port.rx ≠ .frame := by decide +kernel

def passOn : Frame := ⟨0x22, 7, 5, 2, encodeTicket blank false⟩
def ownRollFrame : Frame := base.rollFrame true
def otherRoll : Frame := { ownRollFrame with payload := encodeRoll { base.ownRoll true with gateDist := 11 } .run }
def closing (f : Frame) : State := receiving .frame f.lineBytes [] 0

theorem test_at_CloseMarkChecksAndDispatches_frames :
    accepted [1#8] = false ∧
    accepted passOn.lineBytes = true ∧ frameOfBytes passOn.lineBytes = passOn ∧ passOn.headerOk = true ∧ 2 ≤ passOn.hop ∧
    accepted { passOn with dest := 17 }.lineBytes = true ∧ { passOn with dest := 17 }.headerOk = false ∧
    leaves (.closeMark 0) (closing passOn) (fun t => t.ltu.transitQueue == [{ passOn with hop := 1 }]) = true ∧
    leaves (.closeMark 0) (closing { passOn with dest := 17 }) (fun t => t.counters.lineDrops == 1) = true := by decide +kernel

theorem test_at_CloseMarkChecksAndDispatches_rolls :
    ownRollFrame.origin = 3 ∧ accepted ownRollFrame.lineBytes = true ∧ ownRollFrame.headerOk = true ∧
    (decodeRoll ownRollFrame.payload).sameFixed (base.ownRoll false) = true ∧
    (decodeRoll otherRoll.payload).sameFixed (base.ownRoll false) = false ∧
    leaves (.closeMark 0) (closing ownRollFrame) (fun t => t.port.link == .joined) = true ∧
    leaves (.closeMark 0) (closing otherRoll) (fun t => t.ctl.haltCode == 6) = true ∧
    leaves (.closeMark 0) ((closing otherRoll).setPort { (closing otherRoll).port with link := .bypassed }) (fun t => t.ctl.mode == .run) = true := by decide +kernel

def violating : State := onPort fun p => { p with violationRun := 2 }

theorem test_at_LossEntryAndReturn :
    base.port.rx ≠ .loss ∧
    violating.port.violationRun = 2 ∧
    4000 ≤ base.port.silence + 4000 ∧
    leaves (.lossEntry 0 .thirdViolation) violating (fun t => t.port.lossTimer == some 50000000) = true ∧
    leaves (.lossEntry 4000 .silence) base (fun t => t.port.rx == .loss) = true ∧
    leaves (.lossEntry 3999 .silence) base (fun t => t.port.rx == .idle) = true ∧
    leaves (.lossReturn 0) (receiving .loss [] [] 31) (fun t => t.port.rx == .idle && t.port.idleRun == 32) = true ∧
    leaves (.lossReturn 0) ((receiving .loss [] [] 31).setPort { (receiving .loss [] [] 31).port with link := .severed }) (fun t => t.port.link == .joining) = true := by decide +kernel

def waitingFrame : State := onLtu fun u => { u with ownQueue := [passOn] }
def sendingState : State := onPort fun p => { p with tx := .sending [1#8, 2#8], txTimer := some 10000 }
def aborting : State := onPort fun p => { p with tx := .aborting abortCells, txTimer := some 1000 }

theorem test_at_TransmitterCycle :
    RunsOut base.port.txTimer 8000 ∧
    base.ltu.arbitrate = none ∧
    waitingFrame.ltu.arbitrate = some (passOn, base.ltu) ∧
    RunsOut sendingState.port.txTimer 10000 ∧ sendingState.port.tx = .sending [1#8, 2#8] ∧
    RunsOut aborting.port.txTimer 1000 ∧ aborting.port.tx = .aborting abortCells ∧
    leaves (.transmitterFree 8000) base (fun t => t.port.tx == .free) = true ∧
    leaves (.transmitterFree 8000) waitingFrame (fun t => t.port.tx == .sending passOn.lineBytes) = true ∧
    leaves (.frameSent 10000) sendingState (fun t => t.port.tx == .gap) = true ∧
    leaves (.abortMarkSent 1000) aborting (fun t => t.port.tx == .silent) = true := by
  and_intros <;> first | decide +kernel | exact ⟨_, rfl, by decide⟩

def joining (asked : Nat) : State :=
  (onPort fun p => { p with link := .joining, joinTimer := some 200000000 }).setLtu { base.ltu with joinRetry := asked }
def lost (idle : Nat) : State := onPort fun p => { p with rx := .loss, lossTimer := some 50000000, idleRun := idle }
def severed : State := onPort fun p => { p with link := .severed, rx := .idle, idleRun := 31 }

theorem test_at_LinkTimersAndRejoin :
    RunsOut (joining 4).port.joinTimer 200000000 ∧ (joining 4).ltu.joinRetry < 5 ∧
    5 ≤ (joining 5).ltu.joinRetry ∧
    RunsOut (lost 31).port.lossTimer 50000000 ∧
    severed.port.rx ≠ .frame ∧ severed.port.idleRun = 31 ∧ severed.port.violationRun = 0 ∧
    leaves (.joiningRollRetry 200000000) (joining 4) (fun t => t.ltu.joinRetry == 5) = true ∧
    leaves (.joinTimeout 200000000) (joining 5) (fun t => t.port.link == .severed) = true ∧
    leaves (.lossTimerExpiry 50000000 true) (lost 31) (fun t => t.port.idleRun == 31) = true ∧
    leaves (.lossTimerExpiry 50000000 true) (lost 30) (fun t => t.port.idleRun == 0) = true ∧
    leaves (.severedRejoin 0) severed (fun t => t.port.link == .joining && t.ltu.joinRetry == 1) = true := by
  and_intros <;> first | decide +kernel | exact ⟨_, rfl, by decide⟩

/-! ### Witnesses: loop traffic -/

def queues (transit own : List Frame) (fairness : Nat) : LoopTraffic :=
  { base.ltu with transitQueue := transit, ownQueue := own, fairness := fairness }

theorem test_at_ArbiterChoice :
    (queues [] [] 4).arbitrate = none ∧
    (queues [passOn] [] 4).arbitrate = some (passOn, queues [] [] 4) ∧
    (queues [] [ownRollFrame] 4).arbitrate = some (ownRollFrame, queues [] [] 0) ∧
    (queues [passOn] [ownRollFrame] 3).arbitrate = some (passOn, queues [] [ownRollFrame] 4) ∧
    (queues [passOn] [ownRollFrame] 4).arbitrate = some (ownRollFrame, queues [passOn] [] 0) := by decide +kernel

def rollFrom (origin : Nat) (new : Bool) : Frame := { ownRollFrame with origin := origin, payload := encodeRoll (base.ownRoll new) .run }
def stateFrom (origin : Nat) : Frame := { base.binstateFrame with origin := origin }
def badState : Frame := { stateFrom 5 with payload := [0x03#8] }

theorem test_at_FramesForAllAreTaken :
    (decodeRoll (rollFrom 9 false).payload).takeable = true ∧ base.peer 9 = none ∧
    (decodeRoll []).takeable = false ∧
    binstateOk (stateFrom 5).payload = true ∧ binstateOk badState.payload = false ∧
    (base.peer 5).isSome = true ∧ (base.peer 9).isNone = true ∧
    base.port.link = .joined ∧ base.ltu.recallTimer = none ∧ base.port.tx ≠ .free ∧ base.ltu.ownQueue.length < 8 ∧
    ((base.consumeAll (rollFrom 9 false)).peer 9).map (fun p => p.digestEqual) = some true ∧
    (base.consumeAll (stateFrom 5)).bins.board.length = 2 ∧
    (base.consumeAll (stateFrom 9)).ltu.ownQueue = [base.rollFrame true] ∧
    base.consumeAll { stateFrom 5 with kind := 0x44 } = base := by decide +kernel

def calling : State := onTrk fun u => { u with foreignPulse := some 2000000000 }
def recalling : State := onLtu fun u => { u with recallTimer := some 1000000000 }

theorem test_at_PulseAndTrafficTimers :
    RunsOut calling.trk.foreignPulse 2000000000 ∧
    RunsOut recalling.ltu.recallTimer 1000000000 ∧
    base.peer 5 = some ⟨5, 40, 0x1234#16, true, true, 0⟩ ∧ 5 ≠ base.ctl.address ∧ 3000 ≤ (base.elapse 0).since 0 ∧
    RunsOut base.ctl.statusTimer 5000000000 ∧
    leaves (.foreignAttentionPulseEnd 2000000000) calling (fun t => t.trk.foreignPulse == none) = true ∧
    leaves (.recallTimerExpiry 1000000000) recalling (fun t => t.ltu.recallTimer == none) = true ∧
    leaves (.peerSilenceTimeout 0 5) base (fun t => t.ltu.peers.length == 2) = true ∧
    leaves (.statusPeriodTimer 5000000000) base (fun t => t.ltu.ownQueue.length == 1) = true ∧
    leaves (.statusPeriodTimer 5000000000) (onLtu fun u => { u with ownQueue := List.replicate 8 passOn }) (fun t => t.counters.queueDrops == 1) = true := by
  and_intros <;> first | decide +kernel | exact ⟨_, rfl, by decide⟩

/-! ### Witnesses: modes, invariants and encodings -/

/-- In a mode, the key's settled level `was`, and the line at the other level. -/
def keyed (m : Mode) (was : Bool) : State :=
  let s := onCtl fun c => { c with mode := m, keyTurned := was, keyTimer := some 50000000 }
  s.setPins { s.pins with keyTurned := !was }

theorem test_at_ServiceKeyTogglesMode :
    true ≠ base.pins.keyTurned ∧
    RunsOut (keyed .run false).ctl.keyTimer 50000000 ∧
    (keyed .service false).ctl.keyTurned = false ∧ (keyed .service false).pins.keyTurned = true ∧
    RunsOut (keyed .safe true).ctl.keyTimer 50000000 ∧ (keyed .safe true).running = true ∧
    leaves (.serviceKeyChange 0 true) base (fun t => t.ctl.keyTimer == some 50000000) = true ∧
    leaves (.serviceKeyPress 50000000) (keyed .run false) (fun t => t.ctl.mode == .service) = true ∧
    leaves (.serviceKeyPress 50000000) (keyed .service false) (fun t => t.ctl.mode == .run) = true ∧
    leaves (.serviceKeyPress 50000000) (keyed .safe false) (fun t => t.ctl.mode == .safe) = true ∧
    leaves (.keySettledRelease 50000000) (keyed .safe true) (fun t => t.ctl.keyTurned == false) = true := by
  and_intros <;> first | decide +kernel | exact ⟨_, rfl, by decide⟩

def safeHeld (m : Mode) (timer : Timer) : State :=
  let s := onCtl fun c => { c with mode := .safe, heldMode := some m, chainClosed := false, chainTimer := timer }
  s.setPins { s.pins with chainClosed := timer.isSome }

theorem test_at_SafetyChainMovesMode :
    base.ctl.mode = .run ∧
    (safeHeld .run none).pins.chainClosed = false ∧ (safeHeld .run none).ctl.mode = .safe ∧
    RunsOut (safeHeld .service (some 200000000)).ctl.chainTimer 200000000 ∧ (safeHeld .service (some 200000000)).ctl.heldMode = some .service ∧
    leaves (.safetyChainOpening 0) base (fun t => t.ctl.mode == .safe) = true ∧
    leaves (.safetyChainClosing 0) (safeHeld .run none) (fun t => t.ctl.chainTimer == some 200000000) = true ∧
    leaves (.safeExit 200000000) (safeHeld .service (some 200000000)) (fun t => t.ctl.mode == .service) = true := by
  and_intros <;> first | decide +kernel | exact ⟨_, rfl, by decide⟩

theorem test_at_StepKeepsOutputsAllowed : OutputsAllowed pulsing ∧ ∃ t, step pulsing = .next t := by
  refine ⟨⟨?_, ?_, ?_, ?_⟩, _, rfl⟩
  · intro b; cases b <;> decide
  · intro b _; rfl
  · intro _; decide
  · decide

theorem test_at_StepKeepsPositionInRange : base.running = true ∧ PositionInRange base ∧ ∃ t, step base = .next t :=
  ⟨by decide, fun _ => by decide, _, rfl⟩

theorem test_at_CountersOnlyRise : (∃ t, exec (.seamReport 0) base = .next t) ∧ (∃ t, exec (.externalReset 0) base = .next t) :=
  ⟨⟨_, rfl⟩, _, rfl⟩

theorem test_at_PayloadsRoundTrip :
    cup.contentOk = true ∧
    cup.id.serial < 4096 ∧ cup.lead < 65536 ∧ cup.passes ≤ 15 ∧ cup.missed ≤ 3 ∧
    ∀ i ∈ cup.merged, i.serial < 4096 ∧
    decodeTicket (encodeTicket cup true) = cup ∧
    (base.ownRoll true).takeable = true ∧ (base.ownRoll true).revision < 256 ∧
    Mode.running .safe = true ∧
    (base.binReport .bin1).ok = true := by decide +kernel

theorem test_at_StatusFrameContent :
    base.gate.beams.length = 12 ∧
    0 < base.counters.inOrder.length ∧
    base.counters.cuts ≤ 65535 := by decide +kernel

/-! ### Witnesses: the clauses of the statements clause by clause, where one state does not meet them all -/

theorem test_at_EveryCommandAnswers :
    State.reset.ctl.phase = .inReset ∧ (starting .reading 0).ctl.phase ≠ .inReset ∧
    (starting .reading 0).lampPattern = .steady ∧
    base.lampPattern = .steady ∧
    (onPort fun p => { p with link := .severed }).lampPattern = .interrupted ∧
    (onPos fun p => { p with cond := .freeRun }).lampPattern = .interrupted ∧
    (inMode .service).lampPattern = .oneHz ∧ (inMode .safe).lampPattern = .fourHz ∧
    (inMode .halted).attention = true ∧ base.attention = false ∧ calling.attention = true ∧
    (onBins fun u => { u with recs := u.recs.set .bin1 { openBin with state := .full } }).attention = true ∧
    (onBins fun u => { u with recs := u.recs.set .bin2 { openBin with faultShown := true } }).attention = true := by decide +kernel

/-- About to pass its checks: bin 1 present with its retention record of class `cls`, bin 2 absent. -/
def remembering (cls fill : Nat) (full : Bool) : State :=
  let s := (starting .reading 0).setRetention { Retention.cleared with bins := (Quad.all ⟨0, false, 0⟩).set .bin1 ⟨fill, true, cls⟩ }
  s.setPins { Pins.initial with
    binPresent := (Quad.all false).set .bin1 true, binFull := (Quad.all false).set .bin1 full, beltRun := true }
def begun (s : State) (p : State → Bool) : Bool := leaves (.configReadComplete 0 goodRecord ((Quad.all true).set .bin1 false)) s p

theorem test_at_PassedChecksEnterRun_blocks :
    (config.bins.get .bin1).configured = true ∧ (config.bins.get .bin3).configured = false ∧ (config.bins.get .bin2).homeFitted = false ∧
    (remembering 4 8 false).ej = Quad.all Ejector.reset ∧ (remembering 4 8 false).bins.recs = BinUnit.reset.recs ∧
    (remembering 4 8 false).port.tx = .silent ∧ (remembering 4 8 false).ltu.ownQueue = [] ∧
    begun (remembering 4 8 false) (fun t => t.bins.recs.get .bin1 == ⟨.near, 8, 0, true, true⟩ && t.pos.watchdog == some 100000000) = true ∧
    begun (remembering 4 11 false) (fun t => (t.bins.recs.get .bin1).state == .full && (t.bins.recs.get .bin1).fill == 10) = true ∧
    begun (remembering 4 7 true) (fun t => (t.bins.recs.get .bin1).state == .full) = true ∧
    begun (remembering 5 8 false) (fun t => t.bins.recs.get .bin1 == ⟨.opened, 0, 0, true, true⟩) = true ∧
    begun (remembering 4 8 false) (fun t => t.retention.bins.get .bin1 == ⟨8, true, 4⟩ && t.retention.bins.get .bin3 == ⟨0, false, 0⟩) = true ∧
    begun (remembering 4 8 false) (fun t => (t.bins.recs.get .bin2).state == .absent && (t.ej.get .bin1).state == .fault) = true ∧
    begun (remembering 4 8 false) (fun t => t.ltu.ownQueue.map (fun f => f.kind) == [0x11, 0x33] && t.port.tx == .gap) = true := by decide +kernel

/-- The last slot of the belt. -/
def lastSlot (s : State) : State := s.setPos { s.pos with slot := 127 }

theorem test_at_MissedMarkAndFreeRunBoundaries_events :
    (lastSlot base).pos.slot + 1 = config.slots ∧
    (1 : Nat) ≤ config.guard ∧
    leaves (.rawPulse 0 samples) (seamed (lastSlot (ripe .normal 63 3))) (fun t => t.pos.slot == 0 && t.counters.pitchSlips == 1) = true ∧
    leaves (.rawPulse 0 samples) (seamed (ripe .normal 63 3)) (fun t => t.pos.slot == 0 && t.counters.pitchSlips == 2) = true ∧
    leaves (.rawPulse 0 samples) (seamed (lastSlot (ripe .freeRun 63 0))) (fun t => t.pos.slot == 0 && t.counters.pitchSlips == 0) = true := by decide +kernel

theorem test_at_MarkMakesBoundary_events :
    leaves (.slatMark 0 samples) (seamed (lastSlot (slotStep .normal false 63))) (fun t => t.pos.slot == 0 && t.counters.pitchSlips == 0) = true ∧
    leaves (.slatMark 0 samples) ((slotStep .normal false 63).setPos { (slotStep .normal false 63).pos with missed := 1 }) (fun t => t.pos.missed == 0 && t.pos.period == some 1) = true ∧
    leaves (.slatMark 0 samples) (seamed (lastSlot (qualifying none))) (fun t => t.pos.slot == 0 && t.counters.pitchSlips == 0 && t.pos.period == some 1) = true := by decide +kernel

/-- A detection that awaits its coil window, and the window about to close with so many edges. -/
def awaiting (d : Detection) (count : Nat) : State :=
  onGate fun g => { g with completing := [d], baseline := some 2000, windowCount := count }

theorem test_at_CoilWindowCountsAndCloses_completing :
    (awaiting stacked 2300).gate.completing[0]? = some stacked ∧
    RunsOut (awaiting stacked 2300).gate.windowTimer 1000000 ∧
    config.coilFloor ≤ 2300 ∧ (2300 : Nat) < 65535 ∧
    leaves (.coilWindowClose 1000000 ⟨false, []⟩) (awaiting stacked 2300) (fun t => t.trk.transit.map (fun e => e.ticket.metal) == [some 300]) = true ∧
    leaves (.coilWindowClose 1000000 ⟨false, []⟩) (awaiting stacked 99) (fun t => t.trk.transit.map (fun e => e.ticket.metal) == [some 3]) = true ∧
    leaves (.coilWindowClose 1000000 ⟨false, []⟩) ((awaiting stacked 99).setGate { (awaiting stacked 99).gate with lowRun := 1 })
      (fun t => t.trk.transit.map (fun e => e.ticket.metal) == [none]) = true := by
  and_intros <;> first | decide +kernel | exact ⟨_, rfl, by decide⟩

def threeBeams : List Beam := [⟨false, 0, 0⟩, ⟨true, 1024, 0⟩, ⟨false, 0, 0⟩]
def fourWaiting : State := onGate fun g => { g with completing := List.replicate 4 stacked }

theorem test_at_SamplesOpenAndCloseDetections_sample :
    [BeamLevel.blocked, .blocked, .dim].length = threeBeams.length ∧
    (maskedSample 1 threeBeams [.blocked, .blocked, .dim]).high = 3 ∧ (maskedSample 1 threeBeams [.blocked, .blocked, .dim]).notClear = 2 ∧
    (maskedSample 1 threeBeams [.clear, .blocked, .clear]).occupied = false ∧
    (maskedSample 1 threeBeams [.dim, .clear, .clear]).high = 1 ∧
    base.gate.state ≠ .held ∧
    fourWaiting.gate.completing = stacked :: List.replicate 3 stacked ∧ 4 ≤ fourWaiting.gate.completing.length ∧
    (fourWaiting.closing stacked .idle).gate.completing.length = 4 := by decide +kernel

theorem test_at_PlacementByCandidates_merge :
    ([saucer, cup].map (fun k => k.id)).Nodup ∧
    appendIds ⟨1, 1⟩ [] [⟨1, 1⟩, ⟨2, 2⟩, ⟨2, 2⟩, ⟨3, 3⟩, ⟨4, 4⟩, ⟨5, 5⟩] = ([⟨2, 2⟩, ⟨3, 3⟩, ⟨4, 4⟩], true) ∧
    appendIds ⟨1, 1⟩ [⟨2, 2⟩, ⟨3, 3⟩, ⟨4, 4⟩] [⟨3, 3⟩] = ([⟨2, 2⟩, ⟨3, 3⟩, ⟨4, 4⟩], false) := by decide +kernel

theorem test_at_TicketArrivalFate_adoption :
    strayEntry.localStray = true ∧
    (signedDiff config.span strayEntry.ticket.lead 321).natAbs ≤ config.matchW ∧
    base.trusts 5 = true ∧ base.trusts 6 = false ∧ base.trusts 9 = false ∧
    ((arriving { distant 321 with missed := 2 } (carrying strayEntry)).trk.transit.map (fun e => e.ticket.merged)) = [[⟨3, 9⟩]] ∧
    ((arriving { distant 321 with merged := [⟨1, 1⟩, ⟨1, 2⟩, ⟨1, 3⟩] } (carrying strayEntry)).trk.transit.map (fun e => e.ticket.cls)) = [0] ∧
    (arriving (distant 322) (expecting [far 322 1])).trk.expect = [far 322 1, ⟨distant 322, true, 5000⟩] ∧
    ((expecting [far 330 1, far 340 2]).trk.expect.map (fun e => e.ticket.id)).Nodup := by decide +kernel

def passing48 : State := onTrk fun u => { u with transit := (List.range 48).map (fun k => { passing (distant 400) with ref := k }) }
def seen : Detection := ⟨310, 330, 21, false, 2, 0, none⟩

theorem test_at_ExpiryAndHandOver_trailing :
    base.pos.cond ≠ .unsynced ∧ 0 < config.span ∧
    base.candidate seen (far 302 1) = true ∧ base.candidate seen (far 301 1) = false ∧ base.candidate seen (far 330 1) = true ∧ base.candidate seen (far 331 1) = false ∧
    48 ≤ passing48.trk.transit.length ∧
    (passing48.place seen).counters.untracked = 1 ∧
    base.trk.transit.length < 48 ∧ (placement config.span seen []).stray = true ∧ (placement config.span seen [far 320 1]).stray = false ∧
    (base.place seen).counters.strays = 1 ∧ (base.place seen).trk.serial = 1 ∧
    ((expecting [far 320 1]).place seen).counters.matched = 1 ∧
    (base.setTrk { base.trk with refCount := 255 }).trk.transit.all (fun e => e.ref != 255) = true ∧
    ((base.setTrk { base.trk with refCount := 255 }).place seen).trk.refCount = 0 ∧
    (((carrying (passing blank)).setTrk { (carrying (passing blank)).trk with refCount := 7 }).place seen).trk.refCount = 9 := by decide +kernel

theorem test_at_FlushEmptiesListsAndWatches_event :
    (⟨0, none, true⟩ : StepEvent).seamSlip = true ∧ (⟨0, none, false⟩ : StepEvent).seamSlip = false ∧
    ((carrying (passing blank)).trackStep ⟨0, none, true⟩).counters.flushed = 1 ∧
    ((carrying (passing blank)).trackStep ⟨0, none, false⟩).trk.transit.length = 1 := by decide +kernel

def loaded (fill : Nat) : State := onBins fun u => { u with recs := u.recs.set .bin1 { openBin with fill := fill } }
def planned (l : List SchedItem) : State := onOne fun e => { e with schedule := l }

theorem test_at_DecisionTests_answers :
    base.pos.cond = .normal ∧ base.ctl.mode = .run ∧ (ofClass 4).cls ≠ 0 ∧ (ofClass 4).cls ≠ 13 ∧ (ofClass 4).missed < 2 ∧
    ((loaded 9).decision 1 (ofClass 4)).2 = .pass .full ∧ ((loaded 8).decision 1 (ofClass 4)).2 = .scheduled .bin1 515 ∧
    ((planned [⟨9, 452⟩]).decision 1 (ofClass 4)).2 = .pass .busy ∧ ((planned [⟨9, 451⟩]).decision 1 (ofClass 4)).2 = .scheduled .bin1 515 ∧
    ((planned ((List.range 8).map (fun k => ⟨k, 600 + 64 * k⟩))).decision 1 (ofClass 4)).2 = .pass .busy ∧
    ((onOne fun e => { e with state := .fault }).decision 1 (ofClass 4)).2 = .pass .full ∧
    (base.decision 1 { ofClass 4 with lead := 115 }).2 = .pass .busy ∧ (base.decision 1 { ofClass 4 with lead := 116 }).2 = .scheduled .bin1 331 ∧
    base.lowestBin [.bin2] = some .bin2 ∧
    (offered (offer 0 1)).balanceTakes 5 .bin2 = false ∧ ((offered (offer 0 1)).decision 1 (ofClass 5)).2 = .pass .deferred ∧
    ((offered (offer 1 1)).decision 1 (ofClass 5)).2 = .scheduled .bin2 615 := by decide +kernel

theorem test_at_FireHeadOutcomes_heads :
    (planned [⟨7, 515⟩, ⟨8, 580⟩]).ej.get .bin1 = { Ejector.reset with schedule := [⟨7, 515⟩] ++ [⟨8, 580⟩] } ∧
    (⟨515, some 1, false⟩ : StepEvent).covers config.span 515 = true ∧ (⟨515, some 1, false⟩ : StepEvent).covers config.span 580 = false ∧
    ((State.fireEjector ⟨515, some 1, false⟩ (planned [⟨7, 515⟩, ⟨8, 580⟩]) .bin1).ej.get .bin1).schedule = [⟨8, 580⟩] ∧
    { base.pos with period := none }.speed = 0 ∧
    { base.pos with sinceBoundary := some 999 }.speed = 200 ∧ { base.pos with sinceBoundary := some 640000000 }.speed = 100 := by decide +kernel

def firedEntryAt (done : Bool) : TransitEntry := ⟨ofClass 4, 7, .fired .bin1 515 false, false, false, done⟩
/-- Bin 1 with a fired item under watch and one scheduled, its ejector having missed `n` times. -/
def atVerify (n : Nat) (done : Bool) : State :=
  let s := onTrk fun u => { u with transit := [firedEntryAt done, { booked with ref := 8 }] }
  (s.setEj (s.ej.set .bin1 { Ejector.reset with misses := n, schedule := [⟨8, 515⟩], watch := [watching true false] })).setBins
    { s.bins with recs := s.bins.recs.set .bin1 { openBin with pending := 2 } }

theorem test_at_VerifyOutcomes_entry :
    (atVerify 0 false).entry 7 = some (firedEntryAt false) ∧ (firedEntryAt false).state = .fired .bin1 515 false ∧
    (((atVerify 0 false).verifyItem .bin1 (watching false false)).entry 7) = none ∧
    (((atVerify 0 false).verifyItem .bin1 (watching true false)).entry 7).map (fun e => (e.state, e.ticket.missed)) = some (.pass .missed, 1) ∧
    (((atVerify 0 true).verifyItem .bin1 (watching true false)).entry 7) = none ∧
    (((atVerify 0 false).verifyItem .bin1 (watching true false)).bins.recs.get .bin1).pending = 1 ∧
    ((atVerify 1 false).verifyItem .bin1 (watching true false)).bins.recs.get .bin1 = ⟨.opened, 3, 0, false, true⟩ ∧
    (((atVerify 1 false).verifyItem .bin1 (watching true false)).entry 8).map (fun e => e.state) = some (.pass .busy) := by decide +kernel

/-- `atVerify`, with bin 1's bin-present sensor falling, or its full sensor rising. -/
def pulled : State :=
  let s := atVerify 0 false
  (s.setBins { s.bins with present := s.bins.present.set .bin1 ⟨true, some 100000000⟩ }).setPins
    { s.pins with binPresent := s.pins.binPresent.set .bin1 false }
def overfull : State :=
  let s := atVerify 0 false
  (s.setBins { s.bins with full := s.bins.full.set .bin1 ⟨false, some 300000000⟩ }).setPins
    { s.pins with binFull := s.pins.binFull.set .bin1 true }

theorem test_at_RemovalCancelsAndDetaches_entries :
    RunsOut (pulled.bins.present.get .bin1).timer 100000000 ∧
    (pulled.ej.get .bin1).schedule = [⟨8, 515⟩] ∧ (pulled.ej.get .bin1).watch = [watching true false] ∧
    leaves (.removal 100000000 .bin1) pulled (fun t => t.trk.transit.map (fun e => e.state) == [.fired .bin1 515 true, .pass .binRemoved]) = true ∧
    leaves (.removal 100000000 .bin1) pulled (fun t => t.bins.recs.get .bin1 == ⟨.absent, 0, 0, false, false⟩) = true ∧
    RunsOut (overfull.bins.full.get .bin1).timer 300000000 ∧
    leaves (.fullSensorRise 300000000 .bin1) overfull (fun t => t.trk.transit.map (fun e => e.state) == [.fired .bin1 515 false, .pass .full]) = true ∧
    leaves (.fullSensorRise 300000000 .bin1) overfull (fun t => t.bins.recs.get .bin1 == ⟨.full, 3, 1, false, false⟩) = true := by
  and_intros <;> first | decide +kernel | exact ⟨_, rfl, by decide⟩

def ownHas (l : List Frame) : State := onLtu fun u => { u with ownQueue := l }
def freeState : State := onPort fun p => { p with tx := .free, txTimer := none }

theorem test_at_BinstatePeriodQueuesFrame_requests :
    (onPort fun p => { p with link := .bypassed }).port.link = .bypassed ∧
    base.binstateFrame.kind = 0x33 ∧ passOn.kind ≠ 0x33 ∧
    ((ownHas [stateFrom 9, passOn]).enqueueOwn base.binstateFrame).ltu.ownQueue = [base.binstateFrame, passOn] ∧
    ((ownHas (List.replicate 8 passOn)).enqueueOwn base.binstateFrame).counters.queueDrops = 1 ∧
    ((ownHas (List.replicate 7 passOn)).enqueueOwn passOn).ltu.ownQueue.length = 8 ∧
    freeState.port.tx = .free ∧ freeState.ltu.arbitrate = none ∧
    (freeState.enqueueOwn passOn).port.tx = .sending passOn.lineBytes := by decide +kernel

def sendingAt (gone : Nat) : LoopPort := { base.port with tx := .sending [1#8, 2#8], txTimer := some (10000 - gone) }
def noClose : List CellClass := [.violation, .violation]

theorem test_at_TransmitterCycle_cells :
    (frameCells [1#8, 2#8]).length = 20 ∧ byteCells 1#8 = .one :: List.replicate 7 .zero ∧
    [0, 499, 500, 1000, 1500, 9000, 9500, 9999].map (fun t => (sendingAt t).loopOut) =
      [some .violation, some .violation, some .zero, some .one, some .zero, some .violation, some .one, some .one] ∧
    (LoopPort.loopOut { base.port with tx := .silent }) = none ∧ base.port.loopOut = some .one ∧
    (LoopPort.loopOut { base.port with tx := .aborting noClose, txTimer := some 1 }) = some .violation ∧
    (sendingAt 0).leaveRing.tx = .aborting ([.violation, .zero] ++ noClose) ∧ (sendingAt 500).leaveRing.tx = .aborting ([.zero] ++ noClose) ∧
    (sendingAt 1000).leaveRing.tx = .aborting (byteCells 1#8 ++ noClose) ∧ (sendingAt 8999).leaveRing.tx = .aborting ([.zero] ++ noClose) ∧
    (sendingAt 9000).leaveRing.tx = .aborting noClose ∧ (sendingAt 9500).leaveRing.tx = .aborting ([.one] ++ noClose) ∧
    (sendingAt 8999).leaveRing.txTimer = some 1001 ∧ aborting.port.leaveRing = aborting.port := by decide +kernel

theorem test_at_LinkTimersAndRejoin_rolls :
    leaves (.joiningRollRetry 200000000) (joining 4) (fun t => t.ltu.ownQueue == [base.rollFrame true]) = true ∧
    leaves (.joiningRollRetry 200000000) ((joining 4).setPort { (joining 4).port with tx := .free }) (fun t => t.port.tx == .sending (base.rollFrame true).lineBytes) = true ∧
    leaves (.joiningRollRetry 200000000) ((joining 4).setLtu { (joining 4).ltu with ownQueue := List.replicate 8 passOn }) (fun t => t.counters.queueDrops == 1) = true ∧
    leaves (.severedRejoin 0) severed (fun t => t.ltu.ownQueue == [base.rollFrame true]) = true := by decide +kernel

/-- This station's own ticket to peer 5 come home, and one that has been sent again before. -/
def returned : Frame := ⟨0x22, 5, 3, 20, encodeTicket blank false⟩
def returnedTwice : Frame := ⟨0x22, 5, 3, 20, encodeTicket blank true⟩
def answering (l : List Frame) : State := (base.setLtu { base.ltu with ownQueue := l }).setPort { base.port with link := .joining }

theorem test_at_FramesForAllAreTaken_dispatch :
    returned.origin = base.ctl.address ∧ returned.kind = 0x22 ∧ stateFrom 3 ≠ returned ∧
    base.dispatch (stateFrom 3) = base ∧
    (base.dispatch { stateFrom 5 with dest := 3 }).counters.lineDrops = 1 ∧ (base.dispatch { passOn with dest := 3 }).ltu.transitQueue = [] ∧
    (base.dispatch (stateFrom 5)).ltu.transitQueue = [{ stateFrom 5 with hop := 31 }] ∧ (base.dispatch (stateFrom 5)).bins.board.length = 2 ∧
    (base.dispatch { passOn with hop := 1 }).counters.queueDrops = 1 ∧ (base.dispatch passOn).ltu.transitQueue = [{ passOn with hop := 1 }] ∧
    ((onLtu fun u => { u with transitQueue := List.replicate 6 passOn }).dispatch passOn).counters.queueDrops = 1 ∧
    ((base.hear 5).peer 5).map (fun p => p.lastHeard) = some 5000#32 := by decide +kernel

theorem test_at_FramesForAllAreTaken_undelivered :
    readdressed returned.payload = false ∧ readdressed returnedTwice.payload = true ∧ 14 ≤ returned.payload.length ∧
    base.peer 5 ≠ none ∧ base.peer 9 = none ∧ (5 : Nat) ≠ base.ctl.address ∧
    (base.removePeer 5).nextPeer = some ⟨6, 60, 0x9999#16, false, true, 0⟩ ∧
    (base.undelivered returned).ltu.ownQueue = [⟨0x22, 6, 3, 32, encodeTicket blank true⟩] ∧
    (base.undelivered returnedTwice).counters.queueDrops = 1 ∧ (base.undelivered returnedTwice).ltu.peers.length = 2 ∧
    ((last base).undelivered returned).counters.queueDrops = 1 := by decide +kernel

theorem test_at_FramesForAllAreTaken_answer :
    ((base.consumeAll (rollFrom 9 false)).peer 9).map (fun p => p.lastHeard) = some 5000 ∧
    (decodeRoll (rollFrom 9 true).payload).newFlag = true ∧ (decodeRoll (rollFrom 9 true).payload).takeable = true ∧
    (answering []).port.link = .joining ∧
    ((answering []).consumeAll (rollFrom 9 true)).ltu.ownQueue = [base.rollFrame false] ∧
    ((answering [ownRollFrame]).consumeAll (rollFrom 9 true)).ltu.ownQueue = [ownRollFrame] ∧
    ((answering (List.replicate 8 passOn)).consumeAll (rollFrom 9 true)).counters.queueDrops = 1 ∧
    (severed.consumeAll (rollFrom 9 true)).ltu.ownQueue = [] ∧
    (base.consumeAll { rollFrom 9 true with kind := 0x55 }) = base := by decide +kernel

/-- `atVerify`, with ejector 2 pulsing and the key about to settle in a mode. -/
def busyKey (m : Mode) (q : Option (Quad SnapshotSlot)) : State :=
  let s := atVerify 0 false
  let s1 := (s.setCtl { s.ctl with mode := m, keyTimer := some 50000000 }).setPins { s.pins with keyTurned := true }
  (s1.setEj (s1.ej.set .bin2 { Ejector.reset with state := .pulsing, shadow := true })).setBins { s1.bins with snapshot := q }
def marks : Option (Quad SnapshotSlot) := some ⟨⟨.opened, .kept⟩, ⟨.opened, .fresh⟩, ⟨.absent, .replaced⟩, ⟨.absent, .kept⟩⟩

theorem test_at_ServiceKeyTogglesMode_bins :
    RunsOut (busyKey .run none).ctl.keyTimer 50000000 ∧ (busyKey .run none).counters.cuts ≤ 65535 ∧
    leaves (.serviceKeyPress 50000000) (busyKey .run none) (fun t => t.counters.cuts == 1 && t.trk.transit.map (fun e => e.state) == [.fired .bin1 515 false, .pass .service]) = true ∧
    leaves (.serviceKeyPress 50000000) (busyKey .run none) (fun t => t.bins.snapshot == visit && t.bins.recs.get .bin1 == ⟨.held, 3, 1, false, false⟩) = true ∧
    leaves (.serviceKeyPress 50000000) (busyKey .run none) (fun t => (t.bins.recs.get .bin3).state == .opened) = true ∧
    leaves (.serviceKeyPress 50000000) (busyKey .service marks) (fun t => t.bins.recs.get .bin1 == ⟨.opened, 3, 2, false, false⟩ && (t.bins.recs.get .bin2).fill == 0) = true ∧
    leaves (.safetyChainOpening 0) (busyKey .run none) (fun t => t.counters.cuts == 1 && t.trk.transit.map (fun e => e.state) == [.fired .bin1 515 false, .pass .safety]) = true ∧
    leaves (.safetyChainOpening 0) (busyKey .service marks) (fun t => t.bins.recs == (busyKey .service marks).bins.recs) = true := by
  and_intros <;> first | decide +kernel | exact ⟨_, rfl, by decide⟩

/-- `atVerify`, with the records of the other bins in balance. -/
def balanced : State :=
  let s := atVerify 0 false
  s.setBins { s.bins with recs := ⟨{ openBin with pending := 2 }, { openBin with pending := 0 }, ⟨.absent, 0, 0, false, false⟩, ⟨.absent, 0, 0, false, false⟩⟩ }

theorem test_at_StepKeepsBinLaws : BinLaws balanced ∧ ∃ t, step balanced = .next t := by
  refine ⟨⟨?_, ⟨by decide, ?_⟩, ?_, ?_, ?_⟩, _, rfl⟩
  · intro b; cases b <;> decide
  · intro b
    cases b <;> simp [balanced, atVerify, onTrk, State.setTrk, State.setBins, State.setEj, Quad.set, Quad.get, base, Quad.all, Ejector.reset, watching, firedEntryAt, booked, State.reset]
  · intro b; cases b <;> decide
  · intro q h; cases h
  · intro h; cases h

/-- The good record with byte `i` changed, its checksum made good. -/
def recordWith (i : Nat) (b : Byte) : List Byte :=
  let body := recordBody.set i b
  body ++ [0#8 - body.foldl (fun a b => a + b) 0#8]
/-- Bin 1 as `r`, the bin lamps at a phase, the station lamp lit. -/
def lamps (r : BinRecord) (phase : Nat) : State :=
  (onBins fun u => { u with recs := u.recs.set .bin1 r }).setCtl { base.ctl with flashPhase := phase }

theorem test_at_EveryCommandAnswers_lamps :
    (leaves (.serviceKeyPress 50000000) (keyed .run false) (fun t => t.ctl.lamp == .oneHz && t.ctl.lampTime == 0)) = true ∧
    [749999999, 750000000].map LampPattern.interrupted.lit = [true, false] ∧ [499999999, 500000000].map LampPattern.oneHz.lit = [true, false] ∧
    [124999999, 125000000].map LampPattern.fourHz.lit = [true, false] ∧
    [0, 299999999, 300000000, 600000000, 1199999999, 1200000000].map (LampPattern.code 2).lit = [true, true, false, true, false, false] ∧
    (base.binCfg .bin3).configured = false ∧ (inMode .halted).running = false ∧ (base.binCfg .bin1).configured = true ∧ base.running = true ∧
    (lamps { openBin with state := .held, faultShown := true } 0).binLamp .bin1 = false ∧ base.stationLamp = true ∧
    [124999999, 125000000].map (fun p => (lamps { openBin with state := .full } p).binLamp .bin1) = [true, false] ∧
    [124999999, 125000000].map (fun p => (lamps { openBin with state := .absent, faultShown := true } p).binLamp .bin1) = [true, false] ∧
    [499999999, 500000000].map (fun p => (lamps { openBin with state := .near } p).binLamp .bin1) = [true, false] ∧
    (lamps openBin 0).binLamp .bin1 = true ∧ (lamps { openBin with state := .absent } 0).binLamp .bin1 = false ∧ base.binLamp .bin3 = false := by decide +kernel

theorem test_at_FailedCheckHaltsWithItsCode_checks :
    checkImage (recordWith 16 104#8) = none ∧ checkImage ((recordWith 17 1#8)) = some 4 ∧
    checkImage (recordWith 82 0x86#8) = some 5 ∧
    checkImage (recordWith 1 1#8) = some 3 ∧ unusedClear (recordWith 1 1#8) = false ∧
    unusedClear (recordWith 24 0x10#8) = false ∧ unusedClear (recordWith 25 0xF#8) = false ∧ unusedClear (recordWith 82 0x94#8) = false ∧ unusedClear (recordWith 90 1#8) = false ∧
    config.inRange = true ∧ { config with slots := 127 }.inRange = false ∧ { config with slots := 1024, windowMs := 4, hysteresis := 4 }.inRange = true ∧
    { config with windowMs := 3 }.inRange = false ∧ { config with minSpeed := 8193 }.inRange = false ∧
    { binOne with cls := 13 }.inRange = false ∧ { binOne with near := 15, capacity := 1000 }.inRange = true ∧
    ruleOne.inRange = true ∧ ruleTwo.inRange = true ∧ { ruleOne with lenLo := 61 }.inRange = false ∧ { ruleTwo with metal := some (10, 4096) }.inRange = false ∧
    rangesOk (recordWith 81 17#8) = false ∧ rangesOk (recordWith 81 3#8) = false := by decide +kernel

theorem test_at_WatchdogExpiryEntersFallback_interval :
    leaves (.encoderWatchdogExpiry 7) (watched .normal) (fun t => t.pos.stepTimer == some 5000000) = true ∧
    leaves (.encoderWatchdogExpiry 7) ((watched .normal).setPos { (watched .normal).pos with step := 63 }) (fun t => t.pos.stepTimer == none) = true := by decide +kernel

theorem test_at_PulseCompletesStep_counted :
    leaves (.rawPulse 0 samples) ((ripe .normal 62 0).setPos { (ripe .normal 62 0).pos with slotPulses := 65535 })
      (fun t => t.pos.slotPulses == 65535 && t.pos.watchdog == some 100000000) = true ∧
    leaves (.rawPulse 0 samples) (ripe .fallback 63 0) (fun t => t.pos.slotPulses == 1) = true := by decide +kernel

theorem test_at_FallbackMarkMakesBoundary_interval :
    leaves (.slatMark 0 samples) (qualifying (some 40)) (fun t => t.pos.cond == .fallback && t.pos.stepTimer == t.pos.period.map (fun p => p / 64 * 1000)) = true ∧
    leaves (.slatMark 0 samples) (qualifying (some 63)) (fun t => t.pos.cond == .normal && t.pos.stepTimer == none) = true := by decide +kernel

theorem test_at_TrimWindowGivesPair_slip :
    (seamed base).pos.cond = .normal ∧ (seamed base).pos.seam config.slots = .slip ∧
    (qualifying none).pos.cond ≠ .normal ∧
    (BoundaryKind.missed : BoundaryKind) ≠ .marked := by decide +kernel

/-- `clearWindow` with the coil fault flag set, after so many good windows. -/
def faulty (baseline : Option Nat) (good : Nat) : State :=
  let s := clearWindow 2080 baseline 3
  s.setGate { s.gate with coilFault := true, goodRun := good }

theorem test_at_CoilWindowCountsAndCloses_fault :
    RunsOut (faulty (some 2000) 0).gate.windowTimer 1000000 ∧ (faulty (some 2000) 0).gate.windowClear = true ∧
    leaves (.coilWindowClose 1000000 ⟨false, []⟩) (faulty (some 2000) 2) (fun t => t.gate.coilFault && t.gate.baseline == some 2000) = true ∧
    leaves (.coilWindowClose 1000000 ⟨false, []⟩) (faulty (some 2000) 3) (fun t => !t.gate.coilFault && t.gate.baseline == some 2010) = true ∧
    leaves (.coilWindowClose 1000000 ⟨false, []⟩) (faulty none 0) (fun t => t.gate.coilFault && t.gate.tally == 4) = true := by
  and_intros <;> first | decide +kernel | exact ⟨_, rfl, by decide⟩

/-- An open detection and two completing ones, their leads in the link. -/
def linked : State :=
  let s := openAt none
  (s.setGate { s.gate with completing := [stacked, { stacked with lead := 40 }] }).setTrk { s.trk with link := [10116, 40, 100, 7] }

theorem test_at_SamplesOpenAndCloseDetections_notices :
    (linked.discontinuity clearCurtain).trk.link = [7] ∧ (linked.discontinuity clearCurtain).gate.state = .idle ∧
    (linked.discontinuity busySample).gate.state = .waitClear ∧
    linked.gate.completing.length < 4 ∧ (linked.closing stacked .idle).gate.completing = [stacked, { stacked with lead := 40 }, stacked] := by decide +kernel

theorem test_at_TicketArrivalFate_content :
    blank.contentOk = true ∧ { blank with cls := 14 }.contentOk = false ∧ { blank with length := 1024 }.contentOk = false ∧ { blank with height := 0 }.contentOk = false ∧
    { blank with dim := 17 }.contentOk = false ∧ { blank with metal := some 4096 }.contentOk = false ∧ { blank with id := ⟨17, 1⟩ }.contentOk = false ∧
    { blank with merged := [⟨1, 1⟩, ⟨1, 2⟩, ⟨1, 3⟩] }.contentOk = true ∧ { blank with merged := [⟨1, 1⟩, ⟨1, 1⟩] }.contentOk = false ∧ { blank with merged := [blank.id] }.contentOk = false := by decide +kernel

/-- `booked`, whose verify extent ends at 589, with the gate's step at the moment of the fire. -/
def firingAt (pos : Nat) : State :=
  let s := carrying booked
  (s.setPos { s.pos with slot := pos / 64, step := pos % 64 })

theorem test_at_FireHeadOutcomes_marks :
    (firingAt 515).entry 7 = some booked ∧ config.minSpeed ≤ (firingAt 515).pos.speed ∧ ((firingAt 515).ej.get .bin1).state = .ready ∧
    [588, 589].map (fun p => (((firingAt p).fireHead .bin1 ⟨7, 515⟩).ej.get .bin1).watch.map (fun w => (w.fresh, w.overdue))) =
      [[(true, false)], [(true, true)]] := by decide +kernel

def filled (r : BinRecord) : BinRecord :=
  ((onBins fun u => { u with recs := u.recs.set .bin1 r }).verifyItem .bin1 (watching false false)).bins.recs.get .bin1

theorem test_at_VerifyOutcomes_fill :
    (watching false false).detached = false ∧ (watching false false).blocked = false ∧ (base.binCfg .bin1).capacity = 10 ∧ (base.binCfg .bin1).near = 12 ∧
    [6, 7, 9].map (fun n => (filled ⟨.opened, n, 1, false, false⟩).state) = [.opened, .near, .full] ∧
    (filled ⟨.near, 9, 1, false, false⟩).state = .full ∧ (filled ⟨.near, 5, 1, false, false⟩).state = .near ∧
    (filled ⟨.held, 9, 1, false, false⟩).state = .held ∧ (filled ⟨.full, 3, 1, false, false⟩).state = .full := by decide +kernel

theorem test_at_BinstatePeriodQueuesFrame_report :
    base.binReport .bin2 = ⟨2, 5, some .opened, false, false, 3, 1, 20⟩ := by decide +kernel

/-- Another station's ROLL in this station's name, with an open detection and a frame going out. -/
def clashing : State :=
  let s := closing otherRoll
  let s1 := s.setGate { s.gate with state := .opened, detection := some ⟨100, none, 3, 5, 0, none⟩, completing := [stacked] }
  (s1.setPort { s1.port with tx := .sending [1#8, 2#8], txTimer := some 9000, joinTimer := some 5 }).setTrk
    { s1.trk with link := [100], foreignPulse := some 7 }

theorem test_at_CloseMarkChecksAndDispatches_clash :
    accepted clashing.port.buffer = true ∧ clashing.port.link ≠ .bypassed ∧ (frameOfBytes clashing.port.buffer).headerOk = true ∧
    leaves (.closeMark 0) clashing (fun t => t.trk == ⟨[], [], 0, [], 0, none⟩ && t.gate.detection == none && t.gate.completing == [] && !t.ctl.clockRunning) = true ∧
    leaves (.closeMark 0) (clashing.setLtu { clashing.ltu with joinRetry := 3, fairness := 2, recallTimer := some 5 })
      (fun t => t.ltu == { LoopTraffic.reset with peers := t.ltu.peers } && t.ltu.peers.length == 3) = true ∧
    leaves (.closeMark 0) clashing (fun t => t.port.tx == .aborting ((byteCells 1#8) ++ noClose) && t.port.joinTimer == none) = true ∧
    lengthAllowed 0x22 14 = true ∧ lengthAllowed 0x22 15 = false ∧ lengthAllowed 0x33 33 = true ∧ lengthAllowed 0x44 38 = false ∧ lengthAllowed 0x55 60 = true := by decide +kernel

def twin (address gateDist : Nat) : PeerEntry := ⟨address, gateDist, 0#16, false, true, 0⟩

theorem test_at_FramesForAllAreTaken_peers :
    base.ltu.peers = [] ++ ⟨3, 10, 0x1234#16, true, true, 0⟩ :: base.ltu.peers.drop 1 ∧ base.nextPeer = some ⟨5, 40, 0x1234#16, true, true, 0⟩ ∧
    (last base).nextPeer = none ∧
    (insertPeer (twin 4 40) base.ltu.peers).map (fun p => p.address) = [3, 4, 5, 6] ∧ (insertPeer (twin 6 40) base.ltu.peers).map (fun p => p.address) = [3, 5, 6, 6] ∧
    (decodeRoll (rollFrom 9 true).payload).takeable = true ∧ { base.ownRoll true with exitX := 1025 }.takeable = false ∧ { base.ownRoll true with binCount := 5 }.takeable = false ∧
    binstateOk (stateFrom 5).payload = true ∧ binstateOk badState.payload = false ∧
    binstateOk ((stateFrom 5).payload.take 9 ++ ((stateFrom 5).payload.drop 1).take 8) = false := by decide +kernel

theorem test_at_ServiceKeyTogglesMode_fault :
    leaves (.serviceKeyPress 50000000)
      ((busyKey .service marks).setEj ((busyKey .service marks).ej.set .bin2 { Ejector.reset with state := .fault, misses := 2 }))
      (fun t => (t.ej.get .bin2).state == .ready && !(t.bins.recs.get .bin2).faultShown && (t.ej.get .bin1).state == .ready) = true := by decide +kernel

theorem test_at_SafetyChainMovesMode_again :
    (safeHeld .run (some 9)).ctl.mode = .safe ∧
    leaves (.safetyChainOpening 0) (safeHeld .run (some 9)) (fun t => t.ctl.mode == .safe && t.ctl.chainTimer == none && t.ctl.heldMode == some .run) = true := by decide +kernel

theorem test_at_StepLengthsOfSlot_qualification :
    (qualifying (some 19)).pos.cond = .fallback ∧ (qualifying (some 19)).pos.qual = some 19 ∧
    [19, 20, 63, 64].map (fun c => (qualifying (some c)).pos.stepLength) = [7, 6, 6, 6] ∧
    { (qualifying (some 64)).pos with cur := ⟨6, 70⟩ }.stepLength = 6 ∧ { (qualifying (some 63)).pos with cur := ⟨6, 70⟩ }.stepLength = 7 := by decide +kernel

theorem test_at_MissedMarkAndFreeRunBoundaries_period :
    (ripe .normal 63 3).pos.sinceBoundary = some 1000 ∧
    leaves (.rawPulse 4000 samples) (ripe .normal 63 3) (fun t => t.pos.period == some 5 && t.pos.sinceBoundary == some 0) = true ∧
    leaves (.rawPulse 67108863999 samples) (ripe .freeRun 63 0) (fun t => t.pos.period == some 67108863) = true ∧
    leaves (.rawPulse 0 samples) (seamed ((ripe .normal 63 3).setPos { (ripe .normal 63 3).pos with missed := 1 }))
      (fun t => t.pos.slot == 0 && t.pos.cond == .freeRun) = true := by decide +kernel

theorem test_at_FallbackMarkMakesBoundary_slip :
    leaves (.slatMark 0 samples) (seamed (qualifying (some 63))) (fun t => t.pos.slot == 0 && t.pos.cond == .normal) = true := by decide +kernel

theorem test_at_ClassCodeByFirstMatch_empty :
    classify [] (item 40 1 0 0 (some (7, true))) = 7 ∧ classify [] (item 40 1 0 0 none) = 0 := by decide +kernel

/-- Station 3's serial counter at 4095, with tickets of its own in both lists. -/
def heldSerials : State :=
  onTrk fun u => { u with
    serial := 4095, expect := [⟨{ blank with id := ⟨3, 0⟩ }, true, 0⟩], transit := [passing { blank with id := ⟨3, 4095⟩ }] }

theorem test_at_ExpiryAndHandOver_serial :
    heldSerials.trk.holdsId ⟨3, 4095⟩ = true ∧ heldSerials.trk.holdsId ⟨3, 0⟩ = true ∧ heldSerials.trk.holdsId ⟨4, 0⟩ = false ∧
    heldSerials.trk.expect.length + heldSerials.trk.transit.length ≤ 80 ∧ heldSerials.nextSerial = 1 := by decide +kernel

theorem test_at_FlushEmptiesListsAndWatches_pending :
    (atVerify 0 false).trk.transit.map (fun e => e.state.names) = [some .bin1, some .bin1] ∧
    (EntryState.fired .bin1 515 true).names = none ∧ (EntryState.pass .noBin).names = none ∧
    (atVerify 0 false).flush.bins.recs.get .bin1 = ⟨.opened, 3, 0, false, false⟩ ∧ (atVerify 0 false).flush.bins.recs.get .bin2 = openBin ∧
    ((atVerify 2 false).flush.ej.get .bin1) = { Ejector.reset with misses := 2 } := by decide +kernel

theorem test_at_MarksAndErrorsOpenAndDiscardFrames_silence :
    leaves (.lineError 1000 .loneViolation) base (fun t => t.port.silence == 500) = true ∧
    leaves (.lineError 1000 .loneViolation) (receiving .frame [1#8] [] 0) (fun t => t.port.silence == 500) = true ∧
    (onPort fun p => { p with violationRun := 1 }).port.rx ≠ .loss ∧ (onPort fun p => { p with violationRun := 1 }).port.violationRun = 1 ∧
    leaves (.lineError 500 .loneViolation) (onPort fun p => { p with violationRun := 1 }) (fun t => t.port.silence == 500) = true ∧
    leaves (.lineError 9000 .loneViolation) (onPort fun p => { p with violationRun := 1, rx := .frame }) (fun t => t.port.silence == 4000 && t.port.rx == .idle) = true := by decide +kernel

theorem test_at_StatusFrameContent_age :
    (expecting []).expectAge = 0 ∧ (expecting [far 302 1]).expectAge = 5000 ∧
    (expecting [far 302 1, { far 310 2 with arrival := 4000 }]).expectAge = 5000 ∧ (expecting [{ far 310 2 with arrival := 5001 }]).expectAge = 65535 := by decide +kernel

/-- Bins 1 and 2 of class 4, bin 2 filled to `fill`, and the sensor events that the reservation requests to come take. -/
def rivals (s : State) (fill : Nat) (l : List (List BinEvent)) : State :=
  ((s.setCfg { s.cfg with bins := s.cfg.bins.set .bin2 { s.cfg.bins.get .bin2 with cls := 4 } }).setBins
    { s.bins with recs := s.bins.recs.set .bin2 { openBin with fill := fill } }).setBetween l
/-- `pulled` and `overfull` with the sensor's settle time at its end. -/
def pulledNow : State := pulled.elapse 100000000
def overfullNow : State := overfull.elapse 300000000
def pulledFirst : List (List BinEvent) := [[.removal .bin1]]
def fullFirst : List (List BinEvent) := [[.fullSensorRise .bin1]]
def early : Ticket := { ofClass 4 with lead := 200 }
/-- A detection of class 4 whose coil window closes at once. -/
def handing (s : State) : State :=
  s.setGate { s.gate with state := .idle, completing := [⟨200, 229, 30, false, 1, 0, none⟩], windowTimer := some 0 }

theorem test_at_DecisionTests_between :
    ((rivals pulledNow 12 []).decision 1 early).2 = .scheduled .bin1 415 ∧ (rivals pulledNow 12 pulledFirst).lowestBin [.bin1, .bin2] = some .bin1 ∧
    ((rivals pulledNow 12 pulledFirst).decision 1 early).2 = .pass .full ∧ ((rivals overfullNow 12 fullFirst).decision 1 early).2 = .pass .full ∧
    (((rivals pulledNow 12 []).removal .bin1).decision 1 early).2 = .scheduled .bin2 515 ∧
    ((rivals pulledNow 3 pulledFirst).decision 1 early).2 = .scheduled .bin2 515 ∧ (((rivals pulledNow 3 pulledFirst).decision 1 early).1.bins.recs.get .bin1).state = .absent ∧
    ((rivals pulledNow 12 ([] :: pulledFirst)).decision 1 early).2 = .scheduled .bin1 415 ∧ ((rivals pulledNow 12 ([] :: pulledFirst)).decision 1 early).1.bins.between = pulledFirst ∧
    ((rivals base 12 pulledFirst).decision 1 early).2 = .scheduled .bin1 415 := by decide +kernel

theorem test_at_RemovalCancelsAndDetaches_between :
    RunsOut (pulledNow.bins.present.get .bin1).timer 0 ∧ (pulledNow.bins.present.get .bin1).settled = true ∧ (pulledNow.bins.recs.get .bin1).state = .opened ∧
    ((rivals pulledNow 12 pulledFirst).take 1 early .bin1).1.trk.transit.map (fun e => e.state) = [.fired .bin1 515 true, .pass .binRemoved] ∧
    ((rivals pulledNow 12 pulledFirst).take 1 early .bin1).1.bins.recs.get .bin1 = ⟨.absent, 0, 0, false, false⟩ ∧
    leaves (.coilWindowClose 0 ⟨false, pulledFirst⟩) (handing (rivals pulledNow 12 []))
      (fun t => (t.trk.transit.map (fun e => e.state)).contains (.pass .full) && t.bins.between == []) = true ∧
    leaves (.coilWindowClose 0 ⟨false, []⟩) (handing (rivals pulledNow 12 []))
      (fun t => (t.trk.transit.map (fun e => e.state)).contains (.scheduled .bin1 415)) = true := by
  and_intros <;> first | decide +kernel | exact ⟨_, rfl, by decide⟩

theorem test_at_FullSensorMovesState_between :
    RunsOut (overfullNow.bins.full.get .bin1).timer 0 ∧ (overfullNow.bins.full.get .bin1).settled = false ∧ (overfullNow.bins.recs.get .bin1).state = .opened ∧
    ((rivals overfullNow 12 fullFirst).take 1 early .bin1).1.trk.transit.map (fun e => e.state) = [.fired .bin1 515 false, .pass .full] ∧
    ((rivals overfullNow 12 fullFirst).take 1 early .bin1).1.bins.recs.get .bin1 = ⟨.full, 3, 1, false, false⟩ := by
  and_intros <;> first | decide +kernel | exact ⟨_, rfl, by decide⟩

/-- A fifth detection closes at the next step, so the oldest of the four that wait is handed over. -/
def pressed : State :=
  let s := handing (rivals pulledNow 12 [])
  (s.setPos { s.pos with acc := 6 }).setGate { s.gate with
    state := .opened, detection := some ⟨250, some 300, 1, 1, 0, none⟩,
    completing := List.replicate 4 ⟨200, 229, 30, false, 1, 0, none⟩ }

theorem test_at_PulseCompletesStep_between :
    leaves (.rawPulse 0 samples) pressed (fun t => (t.trk.transit.map (fun e => e.state)).contains (.scheduled .bin1 415)) = true ∧
    leaves (.rawPulse 0 { samples with between := pulledFirst }) pressed
      (fun t => (t.trk.transit.map (fun e => e.state)).contains (.pass .full) && t.bins.between == []) = true := by
  and_intros <;> first | decide +kernel | exact ⟨_, rfl, by decide⟩

/-- A scheduled item whose exit extent is already complete, its exit beam `seen` blocked or not. -/
def doneBooked (seen : Bool) : State := carrying { booked with exitDone := true, exitBlocked := seen }

theorem test_at_FireHeadOutcomes_exitDone :
    (doneBooked true).entry 7 = some { booked with exitDone := true, exitBlocked := true } ∧
    ((slow (doneBooked false)).fireHead .bin1 ⟨7, 515⟩).trk.transit = [] ∧ ((slow (doneBooked false)).fireHead .bin1 ⟨7, 515⟩).counters.vanished = 1 ∧
    ((slow (doneBooked true)).fireHead .bin1 ⟨7, 515⟩).trk.transit = [] ∧ ((slow (doneBooked true)).fireHead .bin1 ⟨7, 515⟩).counters.passedToPeer = 1 ∧
    (((doneBooked true).fireHead .bin1 ⟨7, 515⟩).entry 7).map (fun e => e.state) = some (.fired .bin1 515 false) ∧
    ((State.fires (planned [⟨7, 515⟩, ⟨8, 580⟩]) ⟨515, some 1, false⟩).ej.get .bin1).schedule = [⟨8, 580⟩] := by decide +kernel

/-- Two items of ejector 1's watch, the first with its verify end at 589, the second at 609. -/
def twoWatched : State :=
  onOne fun e => { e with watch := [watching false true, ⟨8, 580, 30, true, true, false, false⟩] }
/-- An item in PASS and one in SCHEDULED, their exit ends at the same position. -/
def bothLeaving : State := onTrk fun u => { u with transit := [passing { blank with lead := 300 }, { booked with ref := 8 }] }
def exitEvent : StepEvent := ⟨bothLeaving.exitEnd { blank with lead := 300 }, some 1, false⟩

theorem test_at_SamplesJudgeExtents_decides :
    ((twoWatched.verifies ⟨589, some 1, false⟩).ej.get .bin1).watch.map (fun w => w.ref) = [8] ∧
    (twoWatched.verifies ⟨589, some 1, false⟩).counters.ejected = 1 ∧
    ((twoWatched.verifies ⟨609, some 25, false⟩).ej.get .bin1).watch = [] ∧ (twoWatched.verifies ⟨609, some 25, false⟩).counters.missed = 1 ∧
    (bothLeaving.exitLine exitEvent).trk.transit.map (fun e => (e.ref, e.exitDone)) = [(8, true)] ∧ (bothLeaving.exitLine exitEvent).counters.vanished = 1 ∧
    (bothLeaving.exitLine { exitEvent with pos := exitEvent.pos - 1 }).trk.transit.length = 2 := by decide +kernel

theorem test_at_BinstateIsAskedFor :
    leaves (.insertion 100000000 .bin1) inserted (fun t => t.bins.periodTimer == some 500000000) = true ∧
    leaves (.removal 100000000 .bin1) removed (fun t => t.bins.periodTimer == some 500000000) = true ∧
    leaves (.fullSensorRise 300000000 .bin1) (fullTurning false openBin) (fun t => t.bins.periodTimer == some 500000000) = true ∧
    leaves (.fullSensorFall 300000000 .bin1) (fullAt 7) (fun t => t.bins.periodTimer == some 500000000) = true ∧
    leaves (.safetyChainOpening 9) base (fun t => t.bins.periodTimer == some 500000000 && t.ctl.noLamp == { (base.elapse 9).ctl with mode := .safe, heldMode := some .run, chainClosed := false }.noLamp) = true ∧
    leaves (.slatMark 9 samples) (seamed (slotStep .unsynced false 63)) (fun t => t.bins.periodTimer == some 500000000) = true ∧
    leaves (.statusPeriodTimer 5000000000) base (fun t => t.ctl.noLamp == { (base.elapse 5000000000).ctl with statusTimer := some 5000000000 }.noLamp) = true := by decide +kernel

end Sys2Proof.Tests
end

/-! The loop's CRC (R144): the register computation, the bytes a sender appends, the checks a receiver makes (R143). -/

namespace Sys2Proof.Machine

/-- R144: a byte goes into the register bit by bit, low bit first. -/
theorem crcByte_eq_foldl (r : BitVec 16) (x : Byte) :
    crcByte r x = [0, 1, 2, 3, 4, 5, 6, 7].foldl (fun (r : BitVec 16) (i : Nat) =>
      if r.getLsbD 0 = x.getLsbD i then r >>> 1 else (r >>> 1) ^^^ 0x8408#16) r := by
  simp only [crcByte, crcBit]

/-- R144: the worked value of the nine bytes 31h to 39h. -/
theorem crc16_check_value :
    crc16 [0x31, 0x32, 0x33, 0x34, 0x35, 0x36, 0x37, 0x38, 0x39] = 0x6F91#16 := by decide +kernel

/-- The bytes a receiver covers: all but the two of the CRC. -/
theorem dropLast_dropLast_eq_take (bs : List Byte) : bs.dropLast.dropLast = bs.take (bs.length - 2) := by
  simp only [List.dropLast_eq_take, List.length_take, List.take_take]
  congr 1
  omega

/-- R143: what a closed frame's bytes must meet. -/
theorem accepted_iff (bs : List Byte) :
    accepted bs = true ↔ 7 ≤ bs.length ∧ byteAt bs 4 + 7 = bs.length ∧
      (crc16 (bs.take (bs.length - 2))).toNat = wordAt bs (bs.length - 2) := by
  simp only [accepted, dropLast_dropLast_eq_take, Bool.and_eq_true, decide_eq_true_eq, beq_iff_eq, and_assoc]

/-- Settles O48: the register computation, its check value, and its uses in sender, receiver and digest. -/
theorem loopCrcCalculation : Obligations.LoopCrcCalculation := by
  refine ⟨fun bs => ?register, crc16_check_value, fun f => ?sender, accepted_iff, fun image => ?digest⟩
  case register => simp only [crc16, funext₂ crcByte_eq_foldl]
  case sender => rw [Frame.lineBytes, wordBytes]
  case digest => rw [digestOf, ruleCount]

end Sys2Proof.Machine

/-! The arbiter (R163): one equation for each row of its table, by which of the two queues are empty. -/

namespace Sys2Proof.Machine

section
variable {u : LoopTraffic} {t o : Frame} {ts os : List Frame}

/-- R163: nothing waits, and nothing is given. -/
theorem arbitrate_of_nil_nil (ht : u.transitQueue = []) (ho : u.ownQueue = []) : u.arbitrate = none := by
  simp only [LoopTraffic.arbitrate, ht, ho]

/-- R163: a transit frame given past an empty own queue leaves the fairness count. -/
theorem arbitrate_of_cons_nil (ht : u.transitQueue = t :: ts) (ho : u.ownQueue = []) :
    u.arbitrate = some (t, { u with transitQueue := ts }) := by
  simp only [LoopTraffic.arbitrate, ht, ho]

/-- R163: an own frame given ends the count of the transit frames that went before it. -/
theorem arbitrate_of_nil_cons (ht : u.transitQueue = []) (ho : u.ownQueue = o :: os) :
    u.arbitrate = some (o, { u with ownQueue := os, fairness := 0 }) := by
  simp only [LoopTraffic.arbitrate, ht, ho]

/-- R163: where both queues hold a frame, the fairness count alone decides which head goes. -/
theorem arbitrate_of_cons_cons (ht : u.transitQueue = t :: ts) (ho : u.ownQueue = o :: os) :
    u.arbitrate =
      if u.fairness < 4 then some (t, { u with transitQueue := ts, fairness := u.fairness + 1 })
      else some (o, { u with ownQueue := os, fairness := 0 }) := by
  simp only [LoopTraffic.arbitrate, ht, ho]

end

/-- Settles O49: the rows of the arbiter's table, the last two of them by the fairness count where both queues hold a frame. -/
theorem arbiterChoice : Obligations.ArbiterChoice := by
  intro u _
  refine ⟨arbitrate_of_nil_nil, fun _ _ => arbitrate_of_cons_nil, fun _ _ => arbitrate_of_nil_cons, ?transitGoes, ?ownGoes⟩
  case transitGoes =>
    intro f rest ht hown hbelow
    obtain ⟨o, os, ho⟩ := List.exists_cons_of_ne_nil hown
    rw [arbitrate_of_cons_cons ht ho, if_pos hbelow]
  case ownGoes =>
    intro f rest htransit ho hfour
    obtain ⟨t, ts, ht⟩ := List.exists_cons_of_ne_nil htransit
    have hnotBelow : ¬ u.fairness < 4 := by omega
    rw [arbitrate_of_cons_cons ht ho, if_neg hnotBelow]

end Sys2Proof.Machine

/-! The line-order check (R178): what the sequence's test decides, and where the check stands among those of R177. -/

namespace Sys2Proof.Machine

/-- R178: the test compares neighbours alone, and the order of numbers carries it to every pair. -/
theorem rises_iff_pairwise (l : List Nat) : rises l = true ↔ l.Pairwise (fun a b => a < b) := by
  rw [← List.isChain_iff_pairwise]
  induction l using rises.induct with
  | case1 a b rest ih => simp only [rises, Bool.and_eq_true, decide_eq_true_eq, List.isChain_cons_cons, ih]
  | case2 l hshort =>
    match l with
    | [] => simp only [rises, List.isChain_nil]
    | [a] => simp only [rises, List.isChain_singleton]
    | a :: b :: rest => exact absurd rfl (hshort a b rest)

/-- R178: the sequence rises, and every ejector line leaves room for half the longest item and 8 steps. -/
theorem lineOrderOk_iff (c : Settings) :
    c.lineOrderOk = true ↔
      c.lineSequence.Pairwise (fun a b => a < b) ∧
        ∀ b, (c.bins.get b).configured = true → c.lMax / 2 + 8 ≤ (c.bins.get b).line := by
  simp only [Settings.lineOrderOk, Bool.and_eq_true, rises_iff_pairwise, configuredBins_all, decide_eq_true_eq]

/-- R177: past the checksum and the ranges, the line order is the next check, and the bins' classes the last. -/
theorem checkImage_of_checksumOk_of_rangesOk {bs : List Byte} (hsum : checksumOk bs = true) (hranges : rangesOk bs = true) :
    checkImage bs =
      if !(settingsOf bs).lineOrderOk then some 4
      else if !binClassesOk (settingsOf bs) (rulesOf bs) then some 5 else none := by
  simp only [checkImage, hsum, hranges, Bool.not_true, Bool.false_eq_true, if_false]

/-- R177, R178: code 4 is the line order's alone, since the one check behind it has code 5. -/
theorem checkImage_eq_four_iff {bs : List Byte} (hsum : checksumOk bs = true) (hranges : rangesOk bs = true) :
    checkImage bs = some 4 ↔ (settingsOf bs).lineOrderOk = false := by
  rw [checkImage_of_checksumOk_of_rangesOk hsum hranges]
  cases (settingsOf bs).lineOrderOk with
  | false => simp
  | true => cases binClassesOk (settingsOf bs) (rulesOf bs) <;> simp

/-- Settles O9: the sequence and the bins in it, what the check holds of them, and the code of its failure. -/
theorem lineOrderCheck : Obligations.LineOrderCheck := by
  refine ⟨fun c => ?sequence, fun c => ?bins, lineOrderOk_iff, fun _ => checkImage_eq_four_iff⟩
  case sequence => rw [Settings.lineSequence, List.flatMap_def]
  case bins => rw [Settings.configuredBins, allBins]

end Sys2Proof.Machine

/-! Every command is its own effect on the station as time has left it (log 1): one equation for exec, and the induction
over a step that the invariants share. -/

namespace Sys2Proof.Machine

/-- The time a command brings (log 1). -/
def elapsedBy : Instr → Nat
  | .powerOnReset dt | .externalReset dt | .start dt _ | .attemptFailure dt | .configReadRetry dt
  | .configReadComplete dt _ _ | .rawPulse dt _ | .slatMark dt _ | .seamReport dt | .encoderWatchdogExpiry dt
  | .fallbackStep dt _ | .beltRunChange dt _ | .coilWindowClose dt _ | .foreignAttentionPulseEnd dt
  | .pulseTimerExpiry dt _ | .recoveryTimerExpiry dt _ _ | .binSensorChange dt _ _ _ | .insertion dt _ | .removal dt _
  | .fullSensorRise dt _ | .fullSensorFall dt _ | .binstatePeriodTimer dt | .openMark dt | .abortMark dt
  | .lineError dt _ | .frameTooLong dt | .closeMark dt | .lossEntry dt _ | .lossReturn dt | .recallTimerExpiry dt
  | .transmitterFree dt | .frameSent dt | .joiningRollRetry dt | .joinTimeout dt | .lossTimerExpiry dt _
  | .severedRejoin dt | .peerSilenceTimeout dt _ | .statusPeriodTimer dt | .serviceKeyChange dt _ | .serviceKeyPress dt
  | .safetyChainOpening dt | .safetyChainClosing dt | .safeExit dt | .oscillatorEdge dt | .cellReceived dt _
  | .keySettledRelease dt | .abortMarkSent dt => dt

/-- What a command does to the station as the time it brings has left it, before the event ends. -/
def effect : Instr → State → State
  | .powerOnReset _ => fun s => s.afterReset Retention.cleared
  | .externalReset _ => fun s => s.afterReset s.retention
  | .start _ straps => State.beginStart straps
  | .attemptFailure _ => State.failAttempt
  | .configReadRetry _ => State.retryRead
  | .configReadComplete _ memory armHome => State.completeRead memory armHome
  | .rawPulse _ smp => State.rawPulse smp
  | .slatMark _ smp => State.slatMark smp
  | .seamReport _ => State.seamReport
  | .encoderWatchdogExpiry _ => State.watchdogEnds
  | .fallbackStep _ smp => State.fallbackStep smp
  | .beltRunChange _ on => State.beltRun on
  | .coilWindowClose _ close => State.windowEnds close
  | .foreignAttentionPulseEnd _ => State.foreignPulseEnds
  | .pulseTimerExpiry _ b => State.pulseEnds b
  | .recoveryTimerExpiry _ b home => State.recoveryEnds b home
  | .binSensorChange _ b sensor level => State.binSensorChange b sensor level
  | .insertion _ b => State.insertion b
  | .removal _ b => State.removal b
  | .fullSensorRise _ b => State.fullSensorRise b
  | .fullSensorFall _ b => State.fullSensorFall b
  | .binstatePeriodTimer _ => State.binstatePeriod
  | .openMark _ => State.hears (fun s => s.receivePair .zero)
  | .abortMark _ => State.hears (fun s => s.receivePair .violation)
  | .lineError _ kind => State.hears (State.lineError kind)
  | .frameTooLong _ => State.hears State.frameTooLong
  | .closeMark _ => State.hears (fun s => s.receivePair .one)
  | .lossEntry _ cause => State.hears (State.lossEntry cause)
  | .lossReturn _ => State.hears State.lossReturn
  | .recallTimerExpiry _ => State.recallEnds
  | .transmitterFree _ => State.transmitterFree
  | .frameSent _ => State.frameSent
  | .joiningRollRetry _ => State.joiningRetry
  | .joinTimeout _ => State.joinTimeout
  | .lossTimerExpiry _ withIdleCell => State.lossTimerEnds withIdleCell
  | .severedRejoin _ => State.hears State.severedRejoin
  | .peerSilenceTimeout _ address => State.peerSilence address
  | .statusPeriodTimer _ => State.statusPeriod
  | .serviceKeyChange _ turned => State.keyChange turned
  | .serviceKeyPress _ => State.keyPress
  | .safetyChainOpening _ => State.chainOpens
  | .safetyChainClosing _ => State.chainCloses
  | .safeExit _ => State.safeExit
  | .oscillatorEdge _ => State.oscillatorEdge
  | .cellReceived _ cell => State.hears (fun s => s.receiveCell cell)
  | .keySettledRelease _ => State.keyRelease
  | .abortMarkSent _ => State.abortMarkSent

/-- Log 1: a command answers the station after its time, its effect and the end of the event. -/
theorem exec_eq_after (c : Instr) (s : State) : exec c s = .next (s.after (elapsedBy c) (effect c)) := by
  cases c <;> rfl

/-- What a step answers: the station unchanged, or the command in front run on the rest of the queue. -/
theorem step_cases {s t : State} (h : step s = .next t) :
    t = s ∨ ∃ c rest, s.pending = c :: rest ∧ t = (s.setPending rest).after (elapsedBy c) (effect c) := by
  unfold step at h
  split at h
  case h_1 => exact .inl (Host.Outcome.next.inj h).symm
  case h_2 c rest hqueue =>
    rw [exec_eq_after] at h
    exact .inr ⟨c, rest, hqueue, (Host.Outcome.next.inj h).symm⟩

/-- An invariant: what a waiting command, passing time, every effect and the end of an event keep, a step keeps. -/
theorem step_keeps {P : State → Prop} (hqueue : ∀ s rest, P s → P (s.setPending rest))
    (htime : ∀ s dt, P s → P (s.elapse dt)) (heffect : ∀ c s, P s → P (effect c s)) (hend : ∀ s, P s → P s.finish)
    {s t : State} (hs : P s) (h : step s = .next t) : P t := by
  obtain rfl | ⟨c, rest, -, rfl⟩ := step_cases h
  · exact hs
  · exact hend _ (heffect c _ (htime _ _ (hqueue s rest hs)))

end Sys2Proof.Machine

/-! The position in range (R3): what a boundary, a step and a pulse leave of the slot, the step-in-slot and the overrun. -/

namespace Sys2Proof.Machine

theorem within_iff (lo hi n : Nat) : within lo hi n = true ↔ lo ≤ n ∧ n ≤ hi := decide_eq_true_iff

/-- R177: the ranges of one configured bin position and its ejector, field by field. -/
theorem BinSettings.inRange_iff (x : BinSettings) : x.inRange = true ↔
    (1 ≤ x.cls ∧ x.cls ≤ 12) ∧ (1 ≤ x.capacity ∧ x.capacity ≤ 1000) ∧ (8 ≤ x.near ∧ x.near ≤ 15) ∧
    (10 ≤ x.pulseMs ∧ x.pulseMs ≤ 250) ∧ (10 ≤ x.recoveryMs ∧ x.recoveryMs ≤ 500) ∧
    (8 ≤ x.spacing ∧ x.spacing ≤ 512) ∧ (1 ≤ x.line ∧ x.line ≤ 1024) ∧ (1 ≤ x.verify ∧ x.verify ≤ 1024) := by
  simp only [BinSettings.inRange, Bool.and_eq_true, within_iff, and_assoc]

/-- A test over the four positions that counts for the configured ones alone. -/
theorem allBins_all_configured (c : Settings) (p : BinNo → Bool) :
    allBins.all (fun b => !(c.bins.get b).configured || p b) = true ↔
      ∀ b, (c.bins.get b).configured = true → p b = true := by
  simp only [List.all_eq_true, mem_allBins, true_imp_iff, Bool.or_eq_true, Bool.not_eq_true', Bool.eq_false_iff, ne_eq,
    ← imp_iff_not_or]

/-- R177: the ranges of the record, field by field. -/
theorem Settings.inRange_iff (c : Settings) : c.inRange = true ↔
    (128 ≤ c.slots ∧ c.slots ≤ 1024) ∧ (1 ≤ c.nominal.n ∧ c.nominal.n ≤ 255 ∧ c.nominal.m ≤ 63) ∧
    (2 ≤ c.guard ∧ c.guard ≤ 16) ∧ (20 ≤ c.encoderMs ∧ c.encoderMs ≤ 500) ∧ (1 ≤ c.gapBridge ∧ c.gapBridge ≤ 8) ∧
    (32 ≤ c.lMax ∧ c.lMax ≤ 1023) ∧ (c.windowMs = 1 ∨ c.windowMs = 2 ∨ c.windowMs = 4) ∧ c.coilFloor ≤ 65535 ∧
    (2 ≤ c.matchW ∧ c.matchW ≤ 32) ∧ (1 ≤ c.exitX ∧ c.exitX ≤ 1024) ∧ c.gateDist ≤ 1023 ∧
    (32 ≤ c.minSpeed ∧ c.minSpeed ≤ 8192) ∧ c.hysteresis ≤ 4 ∧
    ∀ b, (c.bins.get b).configured = true → (c.bins.get b).inRange = true := by
  simp only [Settings.inRange, Bool.and_eq_true, within_iff, allBins_all_configured, Bool.or_eq_true, beq_iff_eq,
    Nat.zero_le, true_and, and_assoc, or_assoc]

/-- A record whose checks all pass has its settings in range (R177). -/
theorem inRange_of_checkImage {bs : List Byte} (h : checkImage bs = none) : (settingsOf bs).inRange = true := by
  by_cases hranges : rangesOk bs = true
  · simp only [rangesOk, Bool.and_eq_true] at hranges
    obtain ⟨⟨⟨-, hfields⟩, -⟩, -⟩ := hranges
    exact hfields
  · unfold checkImage at h
    cases hsum : checksumOk bs <;> simp [hranges, hsum] at h

/-! ### The position in range -/

/-- R3: a position within the belt and the slot. -/
def PositionFits (c : Settings) (p : PositionUnit) : Prop := p.step ≤ 63 ∧ p.slot < c.slots ∧ p.overrun < c.guard

theorem positionInRange_iff (s : State) :
    PositionInRange s ↔ (s.running = true → s.cfg.inRange = true ∧ PositionFits s.cfg s.pos) := Iff.rfl

theorem positionFits_congr {c : Settings} {p q : PositionUnit} (hstep : q.step = p.step) (hslot : q.slot = p.slot)
    (hover : q.overrun = p.overrun) (h : PositionFits c p) : PositionFits c q := by
  unfold PositionFits at h ⊢
  rw [hstep, hslot, hover]
  exact h

/-- A command that leaves the configuration and the place on the belt, and starts no running. -/
theorem positionInRange_of_same {s t : State} (hrun : t.running = true → s.running = true) (hcfg : t.cfg = s.cfg)
    (hpos : t.pos = s.pos) (h : PositionInRange s) : PositionInRange t := by
  intro ht
  rw [hcfg, hpos]
  exact h (hrun ht)

/-- R6, R7, R11: a boundary of any kind begins a slot of the belt at its first steps. -/
theorem positionFits_atBoundary {c : Settings} (hc : c.inRange = true) (p : PositionUnit) (w : Timer) (k : BoundaryKind) :
    PositionFits c (p.atBoundary c w k) := by
  obtain ⟨hslots, -, hguard, -⟩ := c.inRange_iff.mp hc
  have hmod : (p.slot + 1) % c.slots < c.slots := Nat.mod_lt _ (by omega)
  unfold PositionFits
  simp only [atBoundary_fields]
  refine ⟨?_, ?_, by omega⟩
  · unfold BoundaryKind.carry
    split <;> omega
  · split <;> omega

theorem positionFits_boundaryWithEvent {s : State} (hc : s.cfg.inRange = true) (m : Samples) (k : BoundaryKind) :
    PositionFits s.cfg (s.boundaryWithEvent m k).pos := by
  rw [boundaryWithEvent_pos]
  exact positionFits_atBoundary hc _ _ _

/-- R3: a completed step stays within the slot, or a boundary begins the next one. -/
theorem positionFits_stepComplete {s : State} (hc : s.cfg.inRange = true) (h : PositionFits s.cfg s.pos) (m : Samples) :
    PositionFits s.cfg (s.stepComplete m).pos := by
  obtain ⟨hstep, hslot, hover⟩ := h
  unfold State.stepComplete
  dsimp only
  split
  · exact ⟨hstep, hslot, hover⟩
  split
  · next hroom =>
    have hnext : s.pos.step + 1 ≤ 63 := by omega
    simp only [State.stepOn, stepEvent_frame, setPos_pos]
    exact ⟨hnext, hslot, hover⟩
  split
  · exact positionFits_boundaryWithEvent hc m _
  split
  · have hboundary := positionFits_boundaryWithEvent (s := s.setPos { s.pos with overrun := s.pos.overrun + 1 }) hc m .missed
    exact hboundary
  · next hroom =>
    have hbelow : s.pos.overrun + 1 < s.cfg.guard := by omega
    simp only [setPos_pos]
    exact ⟨hstep, hslot, hbelow⟩

/-- R1: a raw pulse. -/
theorem positionFits_pulse {s : State} (hc : s.cfg.inRange = true) (h : PositionFits s.cfg s.pos) (m : Samples) :
    PositionFits s.cfg (s.pulse m).pos := by
  have hcounted : PositionFits s.cfg (s.pos.countPulse s.watchdogStart) := h
  unfold State.pulse
  dsimp only
  split
  · exact positionFits_stepComplete (s := s.setPos { s.pos.countPulse s.watchdogStart with acc := 0 }) hc hcounted m
  · exact hcounted

/-- R6, R8 to R10, R15, R16: a mark begins a slot, or leaves the place on the belt. -/
theorem positionFits_mark {s : State} (hc : s.cfg.inRange = true) (h : PositionFits s.cfg s.pos) (m : Samples) :
    PositionFits s.cfg (s.mark m).pos := by
  have hboundary : ∀ (p : PositionUnit) k, PositionFits s.cfg ((s.setPos p).boundaryWithEvent m k).pos :=
    fun p k => positionFits_boundaryWithEvent (s := s.setPos p) hc m k
  have hhere : ∀ k, PositionFits s.cfg (s.boundaryWithEvent m k).pos := positionFits_boundaryWithEvent hc m
  unfold State.mark
  split
  case h_1 =>
    unfold State.freeRunMark
    dsimp only
    split
    · split
      · simp only [announce_frame, setPos_pos]
        exact h
      · exact h
    · exact h
  case h_2 =>
    unfold State.fallbackMark
    split
    · split
      · exact hhere _
      · exact hboundary _ _
    · split
      · exact hboundary _ _
      · exact hhere _
  case h_3 =>
    split
    · exact h
    · exact hhere _
  case h_4 =>
    split
    · exact h
    · exact hhere _

/-- R14: the entry to FALLBACK leaves the step and the slot, and ends the overrun. -/
theorem positionFits_enterFallback {c : Settings} (hc : c.inRange = true) {p : PositionUnit} (h : PositionFits c p) :
    PositionFits c p.enterFallback := by
  obtain ⟨-, -, hguard, -⟩ := c.inRange_iff.mp hc
  obtain ⟨hstep, hslot, -⟩ := h
  unfold PositionFits PositionUnit.enterFallback PositionUnit.trimEmpty
  simp only [restartInterval_frame]
  exact ⟨hstep, hslot, by omega⟩

theorem positionFits_watchdogExpiry {s : State} (hc : s.cfg.inRange = true) (h : PositionFits s.cfg s.pos) :
    PositionFits s.cfg s.watchdogExpiry.pos := by
  have hstopped : PositionFits s.cfg { s.pos with watchdog := none } := h
  unfold State.watchdogExpiry
  dsimp only
  split
  · exact hstopped
  · unfold PositionUnit.abandonQualification
    split <;> exact hstopped
  · simp only [announce_frame, setPos_pos]
    exact positionFits_enterFallback hc hstopped
  · simp only [announce_frame, setPos_pos]
    exact positionFits_enterFallback hc hstopped

/-- R15: a synthesised step is taken below step 63 alone. -/
theorem positionFits_fallbackStep {s : State} (h : PositionFits s.cfg s.pos) (m : Samples) :
    PositionFits s.cfg (s.fallbackStep m).pos := by
  obtain ⟨hstep, hslot, hover⟩ := h
  unfold State.fallbackStep State.synthesisedStep
  split
  · next hdue =>
    simp only [Bool.and_eq_true, decide_eq_true_eq] at hdue
    obtain ⟨⟨-, hroom⟩, -⟩ := hdue
    simp only [PositionFits, stepEvent_frame, setPos_pos, restartInterval_frame]
    exact ⟨by omega, hslot, hover⟩
  · exact ⟨hstep, hslot, hover⟩

end Sys2Proof.Machine

/-! What a received cell can do outside the line (R139 to R160): it leaves the modes, the ejectors, the bin records and the
place of every item as they were, or it ends in an address clash. -/

namespace Sys2Proof.Machine

/-- What the bins and the ejectors read of a transit entry. -/
def TransitEntry.place (e : TransitEntry) : Nat × EntryState := (e.ref, e.state)

/-- Only the line, the lists that frames write and the Fill Board differ. -/
structure LineOnly (s t : State) : Prop where
  ctl : t.ctl = s.ctl
  ej : t.ej = s.ej
  bins : t.bins = { s.bins with board := t.bins.board }
  items : t.trk.transit.map TransitEntry.place = s.trk.transit.map TransitEntry.place

/-- What the frame lemmas of an operation give, where they cover the four. -/
theorem LineOnly.of_frame {s t : State} (hctl : t.ctl = s.ctl := by simp) (hej : t.ej = s.ej := by simp)
    (hbins : t.bins = s.bins := by simp) (htrk : t.trk = s.trk := by simp) : LineOnly s t := ⟨hctl, hej, by rw [hbins], by rw [htrk]⟩

theorem LineOnly.refl (s : State) : LineOnly s s := .of_frame rfl rfl rfl rfl

theorem LineOnly.trans {s t u : State} (h1 : LineOnly s t) (h2 : LineOnly t u) : LineOnly s u where
  ctl := h2.ctl.trans h1.ctl
  ej := h2.ej.trans h1.ej
  bins := by rw [h2.bins, h1.bins]
  items := h2.items.trans h1.items

/-- A cell or a frame does what `LineOnly` allows, or clashes after it. -/
def LineOrClash (s t : State) : Prop := LineOnly s t ∨ ∃ u, LineOnly s u ∧ t = u.clash

theorem LineOnly.orClash {s t : State} (h : LineOnly s t) : LineOrClash s t := .inl h

theorem LineOnly.transOrClash {s t u : State} (h1 : LineOnly s t) (h2 : LineOrClash t u) : LineOrClash s u := by
  obtain h2 | ⟨v, h2, rfl⟩ := h2
  · exact .inl (h1.trans h2)
  · exact .inr ⟨v, h1.trans h2, rfl⟩

/-! ### Tickets -/

theorem lineOnly_insertExpect (s : State) (e : ExpectEntry) (l : List ExpectEntry) : LineOnly s (s.insertExpect e l) where
  ctl := by simp
  ej := by simp
  bins := by simp
  items := rfl

theorem lineOnly_count (s : State) (k : Counter) : LineOnly s (s.count k) :=
  .of_frame

/-- R83, R84: an adoption changes the ticket of an entry, not its place. -/
theorem lineOnly_adopt (s : State) (n : Nat) (t : Ticket) : LineOnly s (s.updateEntry n (adoptedEntry t)) where
  ctl := by simp
  ej := by simp
  bins := by simp
  items := by
    simp only [State.updateEntry, setTransit_transit, List.map_map]
    refine List.map_congr_left fun e _ => ?_
    simp only [Function.comp_apply]
    split <;> rfl

theorem lineOnly_admitTicket (s : State) (e : ExpectEntry) : LineOnly s (s.admitTicket e) := by
  unfold State.admitTicket
  split
  · exact lineOnly_insertExpect s e _
  split
  · split
    · exact (lineOnly_insertExpect s e _).trans (lineOnly_count _ _)
    · exact lineOnly_count s _
  · exact lineOnly_count s _

theorem lineOnly_lateTicket (s : State) (t : Ticket) : LineOnly s (s.lateTicket t) := by
  unfold State.lateTicket
  split
  · exact lineOnly_count s _
  split
  · exact (lineOnly_adopt s _ t).trans (lineOnly_count _ _)
  · exact lineOnly_count s _

theorem lineOnly_ticketArrival (s : State) (o : Nat) (p : List Byte) : LineOnly s (s.ticketArrival o p) := by
  unfold State.ticketArrival State.testTicket
  dsimp only
  split
  · exact lineOnly_count s _
  split
  · exact lineOnly_count s _
  split
  · exact lineOnly_count s _
  split
  · exact lineOnly_count s _
  split
  · split
    · exact lineOnly_insertExpect s _ _
    · exact lineOnly_count s _
  split
  · exact lineOnly_admitTicket s _
  · exact lineOnly_lateTicket s _

/-! ### Frames -/

theorem lineOnly_setLtu (s : State) (u : LoopTraffic) : LineOnly s (s.setLtu u) :=
  .of_frame

theorem lineOnly_setPort (s : State) (p : LoopPort) : LineOnly s (s.setPort p) :=
  .of_frame

theorem lineOnly_enqueueOwn (s : State) (f : Frame) : LineOnly s (s.enqueueOwn f) :=
  .of_frame

theorem lineOnly_takeBinstate (s : State) (o : Nat) (p : List Byte) : LineOnly s (s.takeBinstate o p) :=
  ⟨by simp, by simp, rfl, by simp⟩

theorem lineOnly_removePeer (s : State) (a : Nat) : LineOnly s (s.removePeer a) := by
  unfold State.removePeer
  split
  · exact .refl s
  · exact ⟨by simp, by simp, rfl, by simp⟩

theorem lineOnly_undelivered (s : State) (f : Frame) : LineOnly s (s.undelivered f) := by
  unfold State.undelivered
  dsimp only
  split
  · exact (lineOnly_removePeer s _).trans (lineOnly_enqueueOwn _ _)
  · exact (lineOnly_removePeer s _).trans (lineOnly_count _ _)

theorem lineOnly_consumeAll (s : State) (f : Frame) : LineOnly s (s.consumeAll f) := by
  unfold State.consumeAll
  split
  · exact .of_frame
  split
  · unfold State.binstateArrival
    split
    · exact .of_frame
    split
    · exact (lineOnly_takeBinstate s _ _).trans (lineOnly_setLtu _ _)
    · exact lineOnly_count s _
  split
  · split
    · exact .of_frame
    · exact .refl s
  · exact .refl s

/-- R157: only another station's ROLL in this station's name clashes. -/
theorem lineOrClash_strip (s : State) (f : Frame) : LineOrClash s (s.strip f) := by
  unfold State.strip State.strippedRoll
  split
  · split
    · exact (LineOnly.of_frame).orClash
    · exact .inr ⟨s, .refl s, rfl⟩
  split
  · exact (lineOnly_undelivered s f).orClash
  · exact (LineOnly.refl s).orClash

theorem lineOrClash_dispatch (s : State) (f : Frame) : LineOrClash s (s.dispatch f) := by
  unfold State.dispatch
  split
  · exact lineOrClash_strip s f
  split
  · unfold State.consumeOwn
    split
    · exact (lineOnly_ticketArrival s _ _).orClash
    · exact (lineOnly_count s _).orClash
  split
  · exact ((lineOnly_consumeAll s f).trans .of_frame).orClash
  · exact (LineOnly.of_frame).orClash

theorem lineOrClash_frameArrival (s : State) (f : Frame) : LineOrClash s (s.frameArrival f) := by
  unfold State.frameArrival
  split
  · exact LineOnly.transOrClash (lineOnly_setLtu s _) (lineOrClash_dispatch _ f)
  · exact (lineOnly_count s _).orClash

/-! ### Cells -/

theorem lineOnly_receiverTo (s : State) (rx : RxState) : LineOnly s (s.receiverTo rx) := lineOnly_setPort s _

theorem lineOnly_discardTo (s : State) (rx : RxState) : LineOnly s (s.discardTo rx) :=
  .of_frame

theorem lineOnly_enterLoss (s : State) : LineOnly s s.enterLoss :=
  .of_frame

theorem lineOnly_plainCell (s : State) (c : CellClass) : LineOnly s (s.plainCell c) :=
  .of_frame

theorem lineOnly_idleOne (s : State) : LineOnly s s.idleOne :=
  .of_frame

theorem lineOrClash_closeFrame (s : State) : LineOrClash s s.closeFrame := by
  unfold State.closeFrame
  dsimp only
  split
  · split
    · exact (lineOnly_receiverTo s _).orClash
    · exact (lineOnly_receiverTo s _).transOrClash (lineOrClash_frameArrival _ _)
  · exact ((lineOnly_receiverTo s .idle).trans .of_frame).orClash

theorem lineOrClash_pairCell (s : State) (c : CellClass) : LineOrClash s (s.pairCell c) := by
  unfold State.pairCell
  split
  · exact lineOrClash_closeFrame s
  · exact (lineOnly_idleOne s).orClash
  · exact (lineOnly_idleOne s).orClash
  · exact (lineOnly_discardTo s _).orClash
  · exact (lineOnly_discardTo s _).orClash
  · exact (lineOnly_discardTo s _).orClash

theorem lineOrClash_receiveCell (s : State) (c : CellClass) : LineOrClash s (s.receiveCell c) := by
  unfold State.receiveCell
  dsimp only
  split
  · exact ((lineOnly_setPort s _).trans (lineOnly_enterLoss _)).orClash
  split
  · exact (lineOnly_setPort s _).transOrClash (lineOrClash_pairCell _ c)
  · exact ((lineOnly_setPort s _).trans (lineOnly_plainCell _ c)).orClash

/-- R139, R143: a cell clashes as the ONE of a close mark alone. -/
theorem lineOnly_receiveCell (s : State) (c : CellClass) (h : c ≠ .one ∨ s.port.pairOpen = false) :
    LineOnly s (s.receiveCell c) := by
  unfold State.receiveCell
  dsimp only
  split
  · exact (lineOnly_setPort s _).trans (lineOnly_enterLoss _)
  split
  · next hpair =>
    have hone : c ≠ .one := h.resolve_right (by simp [hpair])
    refine (lineOnly_setPort s (s.port.note c)).trans ?_
    unfold State.pairCell
    split
    · exact absurd rfl hone
    · exact absurd rfl hone
    · exact absurd rfl hone
    · exact lineOnly_discardTo _ _
    · exact lineOnly_discardTo _ _
    · exact lineOnly_discardTo _ _
  · exact (lineOnly_setPort s _).trans (lineOnly_plainCell _ c)

theorem lineOrClash_receivePair (s : State) (c : CellClass) : LineOrClash s (s.receivePair c) := by
  unfold State.receivePair
  split
  · exact lineOrClash_receiveCell s c
  · exact ((lineOnly_receiveCell s .violation (.inl (by decide))).trans (lineOnly_setPort _ _)).transOrClash
      (lineOrClash_receiveCell _ c)

/-- The commands of the receiver, each behind section 8.9's listening. -/
theorem lineOrClash_hears (f : State → State) (h : ∀ s, LineOrClash s (f s)) (s : State) : LineOrClash s (s.hears f) := by
  unfold State.hears
  split
  · exact h s
  · exact (LineOnly.refl s).orClash

theorem lineOrClash_lineError (k : LineErrorKind) (s : State) : LineOrClash s (s.lineError k) := by
  unfold State.lineError
  split
  · exact lineOrClash_receivePair s _
  · split
    · exact lineOrClash_receiveCell s _
    · exact (LineOnly.refl s).orClash
  · split
    · exact lineOrClash_receiveCell s _
    · exact (LineOnly.refl s).orClash

theorem lineOrClash_frameTooLong (s : State) : LineOrClash s s.frameTooLong := by
  unfold State.frameTooLong
  split
  · exact lineOrClash_receiveCell s _
  · exact (LineOnly.refl s).orClash

theorem lineOrClash_lossEntry (c : LossCause) (s : State) : LineOrClash s (s.lossEntry c) := by
  unfold State.lossEntry
  split
  · split
    · exact lineOrClash_receiveCell s _
    · exact (LineOnly.refl s).orClash
  · split
    · exact (lineOnly_enterLoss s).orClash
    · exact (LineOnly.refl s).orClash

theorem lineOrClash_lossReturn (s : State) : LineOrClash s s.lossReturn := by
  unfold State.lossReturn
  split
  · exact lineOrClash_receiveCell s _
  · exact (LineOnly.refl s).orClash

theorem lineOrClash_severedRejoin (s : State) : LineOrClash s s.severedRejoin := by
  unfold State.severedRejoin
  split
  · exact lineOrClash_receiveCell s _
  · exact (LineOnly.refl s).orClash

/-- The commands whose effect is on the line alone, an address clash apart. -/
def onLine : Instr → Bool
  | .openMark _ | .abortMark _ | .lineError _ _ | .frameTooLong _ | .closeMark _ | .lossEntry _ _ | .lossReturn _
  | .recallTimerExpiry _ | .transmitterFree _ | .frameSent _ | .joiningRollRetry _ | .joinTimeout _
  | .lossTimerExpiry _ _ | .severedRejoin _ | .peerSilenceTimeout _ _ | .cellReceived _ _ | .abortMarkSent _ => true
  | _ => false

theorem lineOrClash_effect (c : Instr) (h : onLine c = true) (s : State) : LineOrClash s (effect c s) := by
  cases c <;> first | contradiction | skip
  case openMark => exact lineOrClash_hears _ (fun s => lineOrClash_receivePair s _) s
  case abortMark => exact lineOrClash_hears _ (fun s => lineOrClash_receivePair s _) s
  case closeMark => exact lineOrClash_hears _ (fun s => lineOrClash_receivePair s _) s
  case cellReceived => exact lineOrClash_hears _ (fun s => lineOrClash_receiveCell s _) s
  case lineError => exact lineOrClash_hears _ (lineOrClash_lineError _) s
  case frameTooLong => exact lineOrClash_hears _ lineOrClash_frameTooLong s
  case lossEntry => exact lineOrClash_hears _ (lineOrClash_lossEntry _) s
  case lossReturn => exact lineOrClash_hears _ lineOrClash_lossReturn s
  case severedRejoin => exact lineOrClash_hears _ lineOrClash_severedRejoin s
  case recallTimerExpiry => exact (LineOnly.of_frame (t := s.recallEnds)).orClash
  case transmitterFree => exact (LineOnly.of_frame (t := s.transmitterFree)).orClash
  case frameSent => exact (LineOnly.of_frame (t := s.frameSent)).orClash
  case joiningRollRetry => exact (LineOnly.of_frame (t := s.joiningRetry)).orClash
  case joinTimeout => exact (LineOnly.of_frame (t := s.joinTimeout)).orClash
  case lossTimerExpiry => exact (LineOnly.of_frame (t := s.lossTimerEnds _)).orClash
  case abortMarkSent => exact (LineOnly.of_frame (t := s.abortMarkSent)).orClash
  case peerSilenceTimeout =>
    simp only [effect, State.peerSilence]
    split
    · exact (lineOnly_removePeer s _).orClash
    · exact (LineOnly.refl s).orClash

end Sys2Proof.Machine

/-! Every step keeps the configuration and the position in range while the station runs (R3). -/

namespace Sys2Proof.Machine

theorem running_of_ctl {s t : State} (h : t.ctl = s.ctl) : t.running = s.running := by
  unfold State.running
  rw [h]

theorem clash_running (s : State) : s.clash.running = false := rfl

/-- On the line an effect keeps the mode, or halts the station. -/
theorem running_of_lineOrClash {s t : State} (h : LineOrClash s t) (ht : t.running = true) : s.running = true := by
  obtain h | ⟨u, -, rfl⟩ := h
  · rwa [running_of_ctl h.ctl] at ht
  · rw [clash_running] at ht
    contradiction

/-- A pulse, a mark or a timer of the Position Unit: the place on the belt fits after it, while the station runs. -/
theorem positionInRange_of_fits {s t : State} (hctl : t.ctl = s.ctl) (hcfg : t.cfg = s.cfg)
    (hfits : s.running = true → s.cfg.inRange = true → PositionFits s.cfg s.pos → PositionFits s.cfg t.pos)
    (h : PositionInRange s) : PositionInRange t := by
  intro ht
  rw [running_of_ctl hctl] at ht
  obtain ⟨hin, hpos⟩ := h ht
  rw [hcfg]
  exact ⟨hin, hfits ht hin hpos⟩

/-- R21, R179: the run notice puts a checked configuration in force and the position at the belt's start. -/
theorem positionInRange_runNotice (s : State) {image : List Byte} (hchecks : checkImage image = none) :
    PositionInRange (s.runNotice image) := by
  have hin := inRange_of_checkImage hchecks
  obtain ⟨hslots, -, hguard, -⟩ := (settingsOf image).inRange_iff.mp hin
  have hplace : ∀ t : State, t.cfg = settingsOf image → t.pos.step = 0 → t.pos.slot = 0 → t.pos.overrun = 0 →
      PositionInRange t := by
    intro t hcfg hstep hslot hover _
    rw [hcfg, hstep, hslot, hover]
    exact ⟨hin, by omega, by omega, by omega⟩
  have hfaults : ∀ (l : List BinNo) (u : State), (l.foldl State.startEjector u).cfg = u.cfg ∧
      (l.foldl State.startEjector u).pos = u.pos :=
    fun l u => ⟨foldl_keeps State.cfg _ (by simp) l u, foldl_keeps State.pos _ (by simp) l u⟩
  unfold State.runNotice
  dsimp only
  split <;>
    exact hplace _ (by simp [hfaults, State.startPosition, State.startGate, State.createOwnEntry])
      (by simp [hfaults, State.startPosition, State.startGate, State.createOwnEntry, PositionUnit.reset])
      (by simp [hfaults, State.startPosition, State.startGate, State.createOwnEntry, PositionUnit.reset])
      (by simp [hfaults, State.startPosition, State.startGate, State.createOwnEntry, PositionUnit.reset])

theorem not_running_of_start {s : State} (h : s.ctl.mode = .start) : s.running = false := by
  rw [State.running, h]
  rfl

theorem positionInRange_of_halted {t : State} (h : t.ctl.mode = .start ∨ t.ctl.mode = .halted) : PositionInRange t := by
  intro ht
  unfold State.running at ht
  obtain h | h := h <;> rw [h] at ht <;> contradiction

/-- R175 to R180: a read that ends in no run notice leaves the station in START or HALTED. -/
theorem completeRead_cases (memory : List Byte) (home : Quad Bool) (s : State) :
    State.completeRead memory home s = s ∨
    (s.reading = true ∧ ((State.completeRead memory home s).ctl.mode = .start ∨
      (State.completeRead memory home s).ctl.mode = .halted)) ∨
    (s.reading = true ∧ ∃ image u, recordOf memory = some image ∧ checkImage image = none ∧
      u = (s.setPins { s.pins with armHome := home }).setCtl { s.ctl with image := image } ∧
      State.completeRead memory home s = u.runNotice image) := by
  by_cases hreading : s.reading = true
  · have hstart : s.ctl.mode = .start := by
      simp only [State.reading, Bool.and_eq_true, beq_iff_eq] at hreading
      exact hreading.1
    simp only [State.completeRead, hreading, if_true, true_and]
    cases hrecord : recordOf memory with
    | none =>
      refine .inr (.inl ?_)
      simp only [State.attemptFailed]
      split <;> simp [State.halt, hstart]
    | some image =>
      simp only [State.readDone]
      cases hcheck : checkImage image with
      | none => exact .inr (.inr ⟨image, _, rfl, hcheck, rfl, rfl⟩)
      | some code =>
        refine .inr (.inl (.inr ?_))
        dsimp only
        split <;> rfl
  · exact .inl (by simp [State.completeRead, hreading])

/-- A command of the key, the chain or START that is no run notice: a station that runs after it ran before it. -/
theorem running_of_modes {s : State} :
    ((State.keyPress s).running = true → s.running = true) ∧ (s.chainOpens.running = true → s.running = true) ∧
    (s.safeExit.running = true → s.running = true) ∧ (s.failAttempt.running = true → s.running = true) ∧
    (s.retryRead.running = true → s.running = true) := by
  refine ⟨?press, ?opens, ?safe, ?failed, ?retry⟩
  case press =>
    unfold State.keyPress
    split
    · next hsettled =>
      simp only [State.keySettled, Bool.and_eq_true] at hsettled
      obtain ⟨⟨⟨hrun, -⟩, -⟩, -⟩ := hsettled
      exact fun _ => hrun
    · exact id
  case opens =>
    unfold State.chainOpens
    dsimp only
    split
    · next hmode => exact fun _ => by rw [State.running, show s.ctl.mode = .run from hmode]; rfl
    · next hmode => exact fun _ => by rw [State.running, show s.ctl.mode = .service from hmode]; rfl
    · next hmode => exact fun _ => by rw [State.running, show s.ctl.mode = .safe from hmode]; rfl
    · exact id
    · exact id
  case safe =>
    unfold State.safeExit
    split
    · next hsafe => exact fun _ => by rw [State.running, hsafe.1]; rfl
    · exact id
  case failed =>
    unfold State.failAttempt
    split
    · next hreading =>
      simp only [State.reading, Bool.and_eq_true, beq_iff_eq] at hreading
      obtain ⟨hmode, -⟩ := hreading
      unfold State.attemptFailed
      dsimp only
      split <;> simp [State.running, State.halt, hmode, Mode.running]
    · exact id
  case retry =>
    unfold State.retryRead
    split <;> exact id

/-- R3: every command's effect keeps the position in range. -/
theorem positionInRange_effect (c : Instr) (s : State) (h : PositionInRange s) : PositionInRange (effect c s) := by
  by_cases hline : onLine c = true
  · have hcase := lineOrClash_effect c hline s
    refine positionInRange_of_same (running_of_lineOrClash hcase) ?_ ?_ h <;>
      (cases c <;> first | contradiction | (simp only [effect, State.hears]; try split) <;> simp)
  obtain ⟨hpress, hopens, hsafe, hfailed, hretry⟩ := running_of_modes (s := s)
  have hsame : ∀ t : State, t.ctl = s.ctl → t.cfg = s.cfg → t.pos = s.pos → PositionInRange t :=
    fun t hctl hcfg hpos => positionInRange_of_same (fun ht => by rwa [running_of_ctl hctl] at ht) hcfg hpos h
  have hmode : ∀ t : State, t.ctl.mode = s.ctl.mode → t.cfg = s.cfg → t.pos = s.pos → PositionInRange t :=
    fun t hctl hcfg hpos => positionInRange_of_same (fun ht => by rwa [State.running, hctl] at ht) hcfg hpos h
  cases c <;> first | exact absurd rfl hline | simp only [effect]
  case powerOnReset => exact positionInRange_of_halted (.inl rfl)
  case externalReset => exact positionInRange_of_halted (.inl rfl)
  case start =>
    exact hmode _ (by unfold State.beginStart; split <;> rfl) (by simp) (by simp)
  case attemptFailure => exact positionInRange_of_same hfailed (by simp) (by simp) h
  case configReadRetry => exact positionInRange_of_same hretry (by simp) (by simp) h
  case configReadComplete dt memory home =>
    obtain heq | ⟨-, hended⟩ | ⟨-, image, u, -, hchecks, -, heq⟩ := completeRead_cases memory home s
    · rw [heq]; exact h
    · exact positionInRange_of_halted hended
    · rw [heq]; exact positionInRange_runNotice u hchecks
  case rawPulse dt m =>
    refine positionInRange_of_fits (by simp) (by simp) (fun hrun hin hpos => ?_) h
    rw [State.rawPulse, if_pos hrun]
    exact positionFits_pulse hin hpos m
  case slatMark dt m =>
    refine positionInRange_of_fits (by simp) (by simp) (fun hrun hin hpos => ?_) h
    rw [State.slatMark, if_pos hrun]
    exact positionFits_mark hin hpos m
  case seamReport =>
    refine positionInRange_of_fits (by simp) (by simp) (fun hrun hin hpos => ?_) h
    rw [State.seamReport, if_pos hrun]
    exact hpos
  case encoderWatchdogExpiry =>
    refine positionInRange_of_fits (by simp) (by simp) (fun hrun hin hpos => ?_) h
    unfold State.watchdogEnds
    split
    · exact positionFits_watchdogExpiry hin hpos
    · exact hpos
  case fallbackStep dt m =>
    exact positionInRange_of_fits (by simp) (by simp) (fun hrun hin hpos => positionFits_fallbackStep hpos m) h
  case beltRunChange dt on =>
    refine positionInRange_of_fits (by simp) (by simp) (fun hrun hin hpos => ?_) h
    unfold State.beltRun
    dsimp only
    split
    · exact hpos
    split <;> exact hpos
  case coilWindowClose => exact hsame _ (by simp) (by simp) (by simp)
  case foreignAttentionPulseEnd => exact hsame _ (by simp) (by simp) (by simp)
  case pulseTimerExpiry => exact hsame _ (by simp) (by simp) (by simp)
  case recoveryTimerExpiry => exact hsame _ (by simp) (by simp) (by simp)
  case binSensorChange => exact hsame _ (by simp) (by simp) (by simp)
  case insertion => exact hsame _ (by simp) (by simp) (by simp)
  case removal => exact hsame _ (by simp) (by simp) (by simp)
  case fullSensorRise => exact hsame _ (by simp) (by simp) (by simp)
  case fullSensorFall => exact hsame _ (by simp) (by simp) (by simp)
  case binstatePeriodTimer => exact hsame _ (by simp) (by simp) (by simp)
  case statusPeriodTimer =>
    exact hmode _ (by unfold State.statusPeriod; split <;> simp) (by simp) (by simp)
  case serviceKeyChange =>
    refine hmode _ ?_ (by simp) (by simp)
    unfold State.keyChange
    dsimp only
    split
    · rfl
    split <;> rfl
  case serviceKeyPress => exact positionInRange_of_same hpress (by simp) (by simp) h
  case safetyChainOpening => exact positionInRange_of_same hopens (by simp) (by simp) h
  case safetyChainClosing =>
    refine hmode _ ?_ (by simp) (by simp)
    unfold State.chainCloses
    dsimp only
    split
    · rfl
    split <;> rfl
  case safeExit => exact positionInRange_of_same hsafe (by simp) (by simp) h
  case oscillatorEdge => exact hsame _ (by simp) (by simp) (by simp)
  case keySettledRelease =>
    exact hmode _ (by unfold State.keyRelease; split <;> rfl) (by simp) (by simp)

/-- Settles O55: passing time, the effects and the end of an event each keep the position in range. -/
theorem stepKeepsPositionInRange : Obligations.StepKeepsPositionInRange := by
  intro s t hs hstep
  refine step_keeps (P := PositionInRange) (fun s rest h => h) (fun s dt h hrun => ?_) positionInRange_effect
    (fun s h => ?_) hs hstep
  · rw [elapse_running] at hrun
    obtain ⟨hin, hpos⟩ := h hrun
    refine ⟨hin, positionFits_congr ?_ ?_ ?_ hpos⟩ <;> simp
  · exact positionInRange_of_same (fun ht => by rwa [State.running, (finish_ctl s).1] at ht) (by simp) (by simp) h

end Sys2Proof.Machine

/-! The commands of the belt are made of changes to the Position Unit, boundaries, announcements and step events: a relation
that each of these keeps, the commands keep (R1 to R16). -/

namespace Sys2Proof.Machine

/-- A relation between states that the parts of the belt's commands keep. -/
structure BeltKeeps (R : State → State → Prop) : Prop where
  refl : ∀ s, R s s
  trans : ∀ {s t u}, R s t → R t u → R s u
  setPos : ∀ s p, R s (s.setPos p)
  boundary : ∀ s k, R s (s.boundary k)
  announce : ∀ s c, R s (s.announce c)
  stepEvent : ∀ s m ev, R s (s.stepEvent m ev)

namespace BeltKeeps

variable {R : State → State → Prop} (hR : BeltKeeps R)
include hR

theorem boundaryWithEvent (s : State) (m : Samples) (k : BoundaryKind) : R s (s.boundaryWithEvent m k) :=
  hR.trans (hR.boundary s k) (hR.stepEvent _ _ _)

theorem stepComplete (s : State) (m : Samples) : R s (s.stepComplete m) := by
  unfold State.stepComplete
  dsimp only
  split
  · exact hR.setPos _ _
  split
  · exact hR.trans (hR.setPos _ _) (hR.stepEvent _ _ _)
  split
  · exact hR.boundaryWithEvent s m _
  split
  · exact hR.trans (hR.setPos _ _) (hR.boundaryWithEvent _ m _)
  · exact hR.setPos _ _

theorem rawPulse (s : State) (m : Samples) : R s (State.rawPulse m s) := by
  unfold State.rawPulse State.pulse
  dsimp only
  split
  · split
    · exact hR.trans (hR.setPos _ _) (hR.stepComplete _ m)
    · exact hR.setPos _ _
  · exact hR.refl s

theorem fallbackMark (s : State) (m : Samples) : R s (s.fallbackMark m) := by
  unfold State.fallbackMark
  split
  · split
    · exact hR.boundaryWithEvent s m _
    · exact hR.trans (hR.setPos _ _) (hR.boundaryWithEvent _ m _)
  · split
    · exact hR.trans (hR.setPos _ _) (hR.boundaryWithEvent _ m _)
    · exact hR.boundaryWithEvent s m _

theorem freeRunMark (s : State) : R s s.freeRunMark := by
  unfold State.freeRunMark
  dsimp only
  split
  · split
    · exact hR.trans (hR.setPos _ _) (hR.announce _ _)
    · exact hR.setPos _ _
  · exact hR.setPos _ _

theorem slatMark (s : State) (m : Samples) : R s (State.slatMark m s) := by
  have hmark : R s (if s.pos.late s.cfg.guard then s.setPos { s.pos with missed := 0 } else s.boundaryWithEvent m .marked) := by
    split
    · exact hR.setPos _ _
    · exact hR.boundaryWithEvent s m _
  unfold State.slatMark State.mark
  split
  · split
    · exact hR.freeRunMark s
    · exact hR.fallbackMark s m
    · exact hmark
    · exact hmark
  · exact hR.refl s

theorem fallbackStep (s : State) (m : Samples) : R s (State.fallbackStep m s) := by
  unfold State.fallbackStep State.synthesisedStep
  split
  · exact hR.trans (hR.setPos _ _) (hR.stepEvent _ _ _)
  · exact hR.refl s

theorem watchdogEnds (s : State) : R s s.watchdogEnds := by
  unfold State.watchdogEnds State.watchdogExpiry
  dsimp only
  split
  · split
    · exact hR.setPos _ _
    · exact hR.setPos _ _
    · exact hR.trans (hR.setPos _ _) (hR.announce _ _)
    · exact hR.trans (hR.setPos _ _) (hR.announce _ _)
  · exact hR.refl s

end BeltKeeps

end Sys2Proof.Machine

/-! The work on items (chapters 2 to 7) is made of a few kinds of change: what each of these keeps, a detection, a decision, a
fire, a verify, an exit, a flush, and so a step event and a coil window's close keep. -/

namespace Sys2Proof.Machine

/-- A relation between states that every kind of change in the work on items keeps. -/
structure ItemWork (R : State → State → Prop) : Prop where
  refl : ∀ s, R s s
  trans : ∀ {s t u}, R s t → R t u → R s u
  setGate : ∀ s g, R s (s.setGate g)
  setTrk : ∀ s u, R s (s.setTrk u)
  setEj : ∀ s q, R s (s.setEj q)
  setPins : ∀ s p, R s (s.setPins p)
  setRetention : ∀ s m, R s (s.setRetention m)
  setBin : ∀ s b r, R s (s.setBin b r)
  takeSensor : ∀ s b k l, R s (s.takeSensor b k l)
  setSlot : ∀ s b x, R s (s.setSlot b x)
  setBetween : ∀ s l, R s (s.setBetween l)
  count : ∀ s k, R s (s.count k)
  enqueueOwn : ∀ s f, R s (s.enqueueOwn f)

namespace ItemWork

variable {R : State → State → Prop} (hR : ItemWork R)
include hR

theorem foldl {α : Type} (g : State → α → State) (h : ∀ s x, R s (g s x)) (l : List α) (s : State) : R s (l.foldl g s) := by
  induction l generalizing s with
  | nil => exact hR.refl s
  | cons x rest ih => exact hR.trans (h s x) (ih _)

theorem setEjector (s : State) (b : BinNo) (e : Ejector) : R s (s.setEjector b e) := hR.setEj s _

theorem setTransit (s : State) (l : List TransitEntry) : R s (s.setTransit l) := hR.setTrk s _

theorem countMany (s : State) (k : Counter) (n : Nat) : R s (s.countMany k n) := by
  induction n generalizing s with
  | zero => exact hR.refl s
  | succ n ih => exact hR.trans (hR.count s k) (ih _)

theorem unreserve (s : State) (b : BinNo) : R s (s.unreserve b) := by
  unfold State.unreserve
  dsimp only
  split
  · exact hR.refl s
  · exact hR.setBin s b _

theorem binVerifyClear (s : State) (b : BinNo) : R s (s.binVerifyClear b) := by
  unfold State.binVerifyClear
  dsimp only
  split
  · exact hR.refl s
  · exact hR.setBin s b _

/-! ### Items that leave -/

theorem sendRelease (s : State) (t : Ticket) : R s (s.sendRelease t) := by
  unfold State.sendRelease
  dsimp only
  split
  · exact hR.trans (hR.count s _) (hR.enqueueOwn _ _)
  · split
    · exact hR.trans (hR.count s _) (hR.setTrk _ _)
    · exact hR.count s _

theorem decideExit (s : State) (n : Nat) : R s (s.decideExit n) := by
  unfold State.decideExit
  split
  · exact hR.refl s
  · split
    · split
      · split
        · exact hR.trans (hR.setTransit s _) (hR.sendRelease _ _)
        · exact hR.trans (hR.setTransit s _) (hR.count _ _)
      · exact hR.refl s
    · exact hR.refl s
    · exact hR.refl s

theorem requestPass (s : State) (n : Nat) (r : PassReason) : R s (s.requestPass n r) :=
  hR.trans (hR.setTransit s _) (hR.decideExit _ n)

theorem requestMissed (s : State) (n : Nat) : R s (s.requestMissed n) :=
  hR.trans (hR.setTransit s _) (hR.decideExit _ n)

theorem requestEjected (s : State) (n : Nat) : R s (s.requestEjected n) := by
  unfold State.requestEjected
  split
  · split
    · exact hR.setTransit s _
    · exact hR.refl s
    · exact hR.refl s
  · exact hR.refl s

theorem cancelItem (s : State) (b : BinNo) (r : PassReason) (it : SchedItem) : R s (s.cancelItem b r it) :=
  hR.trans (hR.unreserve s b) (hR.requestPass _ _ r)

theorem cancelSchedule (s : State) (b : BinNo) (r : PassReason) : R s (s.cancelSchedule b r) :=
  hR.trans (hR.setEjector s b _) (hR.foldl _ (fun s it => hR.cancelItem s b r it) _ _)

theorem cancelAll (s : State) (r : PassReason) : R s (s.cancelAll r) :=
  hR.foldl _ (fun s b => hR.cancelSchedule s b r) _ s

theorem enterFault (s : State) (b : BinNo) : R s (s.enterFault b) := by
  unfold State.enterFault
  split
  · exact hR.refl s
  · exact hR.trans (hR.setEjector s b _) (hR.trans (hR.cancelSchedule _ b _) (hR.setBin _ b _))

theorem cutAll (s : State) : R s s.cutAll := by
  refine hR.foldl _ (fun s b => ?_) _ s
  unfold State.cut
  split
  · exact hR.trans (hR.setEjector s b _) (hR.count _ _)
  · exact hR.refl s

/-! ### Sensors, and the decision -/

theorem removal (s : State) (b : BinNo) : R s (s.removal b) := by
  have hdetach : ∀ u : State, R u (u.detachWatch b) := fun u => hR.trans (hR.setEjector u b _)
    (hR.foldl _ (fun v w => hR.trans (hR.setTransit v _) (hR.unreserve _ b)) _ _)
  unfold State.removal State.removeBin
  dsimp only
  split
  · refine hR.trans (hR.takeSensor s b .present false) ?_
    split
    · exact hR.refl _
    · exact hR.trans (hR.cancelSchedule _ b _) (hR.trans (hdetach _) (hR.trans (hR.setBin _ b _) (hR.setSlot _ b _)))
  · exact hR.refl s

theorem fullSensorRise (s : State) (b : BinNo) : R s (s.fullSensorRise b) := by
  unfold State.fullSensorRise State.fillUp
  split
  · refine hR.trans (hR.takeSensor s b .full true) ?_
    split
    · exact hR.trans (hR.setBin _ b _) (hR.cancelSchedule _ b _)
    · exact hR.refl _
  · exact hR.refl s

theorem takeBetween (s : State) : R s s.takeBetween := by
  unfold State.takeBetween
  split
  · exact hR.refl s
  · refine hR.trans (hR.setBetween s _) (hR.foldl _ (fun s e => ?_) _ _)
    cases e
    · exact hR.removal s _
    · exact hR.fullSensorRise s _

theorem decision (s : State) (n : Nat) (t : Ticket) : R s (s.decision n t).1 := by
  have htake : ∀ b, R s (s.take n t b).1 := by
    intro b
    unfold State.take
    dsimp only
    split
    · exact hR.trans (hR.takeBetween s) (hR.trans (hR.setBin _ b _) (hR.setEjector _ b _))
    · exact hR.takeBetween s
  unfold State.decision
  split
  · exact hR.refl s
  split
  · exact hR.refl s
  split
  · exact hR.refl s
  split
  · exact htake _
  · exact hR.refl s

/-! ### Fire and verify -/

theorem fires (s : State) (ev : StepEvent) : R s (s.fires ev) := by
  refine hR.foldl _ (fun s b => hR.trans (hR.setEjector s b _) (hR.foldl _ (fun s it => ?_) _ _)) _ s
  unfold State.fireHead State.fire
  split
  · exact hR.cancelItem s b _ it
  split
  · exact hR.cancelItem s b _ it
  · exact hR.trans (hR.setEjector s b _) (hR.setTransit _ _)

theorem verifyItem (s : State) (b : BinNo) (w : WatchItem) : R s (s.verifyItem b w) := by
  unfold State.verifyItem State.verifiedBlocked State.verifiedClear
  dsimp only
  split
  · have hrelease : ∀ u : State, R u ((if w.detached then u else u.unreserve b).requestMissed w.ref) := by
      intro u
      split
      · exact hR.requestMissed u _
      · exact hR.trans (hR.unreserve u b) (hR.requestMissed _ _)
    split
    · exact hR.trans (hR.setEjector s b _) (hR.trans (hR.count _ _) (hR.trans (hrelease _) (hR.enterFault _ b)))
    · exact hR.trans (hR.setEjector s b _) (hR.trans (hR.count _ _) (hrelease _))
  · split
    · exact hR.trans (hR.setEjector s b _) (hR.trans (hR.requestEjected _ _) (hR.count _ _))
    · exact hR.trans (hR.setEjector s b _) (hR.trans (hR.requestEjected _ _)
        (hR.trans (hR.binVerifyClear _ b) (hR.count _ _)))

theorem verifies (s : State) (ev : StepEvent) : R s (s.verifies ev) :=
  hR.foldl _ (fun s b => hR.trans (hR.setEjector s b _) (hR.foldl _ (fun s w => hR.verifyItem s b w) _ _)) _ s

/-! ### Placement, the lists and the exit line -/

theorem loseEntries (s : State) (g : ExpectEntry → Bool) : R s (s.loseEntries g) :=
  hR.trans (hR.setTrk s _) (hR.countMany _ _ _)

theorem insertItem (s : State) (t : Ticket) (stray : Bool) (k : Counter) : R s (s.insertItem t stray k) :=
  hR.trans (hR.setTrk s _) (hR.trans (hR.decision _ _ t)
    (hR.trans (hR.setTransit _ _) (hR.trans (hR.count _ k) (hR.decideExit _ _))))

theorem place (s : State) (d : Detection) : R s (s.place d) := by
  have hserial : ∀ (u : State) n, R u (u.advanceSerial n) := fun u n => hR.trans (hR.setTrk u _) (hR.setRetention _ _)
  have hexpect : ∀ (u : State) l, R u (u.setExpect l) := fun u l => hR.setTrk u _
  unfold State.place
  dsimp only
  split
  · split
    · exact hR.trans (hexpect s _) (hR.trans (hserial _ _) (hR.insertItem _ _ _ _))
    · exact hR.trans (hexpect s _) (hR.insertItem _ _ _ _)
  · exact hR.trans (hexpect s _) (hR.count _ _)

theorem handOver (s : State) (d : Detection) : R s (s.handOver d) := by
  have hlink : R s (s.releaseLink d.lead) := hR.setTrk s _
  unfold State.handOver
  dsimp only
  split
  · exact hR.trans hlink (hR.count _ _)
  · exact hR.trans hlink (hR.trans (hR.place _ d) (hR.loseEntries _ _))

theorem flush (s : State) : R s s.flush := by
  refine hR.trans (hR.foldl State.withdraw (fun s e => ?_) _ s)
    (hR.trans (hR.setEj _ _) (hR.trans (hR.setTrk _ _) (hR.countMany _ _ _)))
  unfold State.withdraw
  dsimp only
  split
  · exact hR.refl s
  · exact hR.trans (hR.setEjector s _ _) (hR.unreserve _ _)
  · split
    · exact hR.refl s
    · exact hR.unreserve s _

theorem trackStep (s : State) (ev : StepEvent) : R s (s.trackStep ev) := by
  have hexpire : ∀ u : State, R u u.expireAtStep := by
    intro u
    unfold State.expireAtStep
    split
    · exact hR.loseEntries u _
    · exact hR.refl u
  have hexit : ∀ u : State, R u (u.exitLine ev) :=
    fun u => hR.trans (hR.setTransit u _) (hR.foldl _ hR.decideExit _ _)
  unfold State.trackStep
  dsimp only
  split
  · exact hR.trans (hR.flush s) (hR.trans (hexpire _) (hexit _))
  · exact hR.trans (hexpire _) (hexit _)

/-! ### The gate, and the step event -/

theorem closing (s : State) (d : Detection) (a : GateState) : R s (s.closing d a) := by
  have hidle := hR.setGate s { s.gate with state := a, detection := none }
  unfold State.closing
  dsimp only
  refine hR.trans ?_ (hR.setGate _ _)
  split
  · split
    · exact hR.trans hidle (hR.trans (hR.setGate _ _) (hR.handOver _ _))
    · exact hidle
  · exact hidle

theorem detect (s : State) (pos : Nat) (c : CurtainSample) : R s (s.detect pos c) := by
  unfold State.detect State.openSample State.clearSample State.cutDetection
  dsimp only
  split
  · split
    · exact hR.trans (hR.setGate s _) (hR.setTrk _ _)
    · exact hR.refl s
  · split
    · split
      · split
        · exact hR.closing s _ _
        · exact hR.setGate s _
      · split
        · exact hR.closing s _ _
        split
        · exact hR.closing s _ _
        · exact hR.setGate s _
    · exact hR.refl s
  · split
    · exact hR.refl s
    · exact hR.setGate s _
  · exact hR.refl s

theorem gateStep (s : State) (ev : StepEvent) : R s (s.gateStep ev) := by
  have hlink : ∀ (u : State) lead, R u (u.releaseLink lead) := fun u lead => hR.setTrk u _
  unfold State.gateStep State.discontinuity
  dsimp only
  split
  · exact hR.refl s
  · refine hR.trans ?_ (hR.setGate _ _)
    split
    · exact hR.trans (hR.setGate s _) (hR.trans (hR.foldl _ hlink _ _) (hR.setGate _ _))
    · exact hR.trans (hR.setGate s _) (hR.detect _ _ _)

/-- R4: a step event, in whatever order the blocks take it. -/
theorem stepEvent (s : State) (m : Samples) (ev : StepEvent) : R s (s.stepEvent m ev) := by
  refine hR.trans (hR.setPins s _) (hR.trans (hR.setBetween _ _) (hR.trans
    (hR.foldl (State.runPart ev) (fun u p => ?_) _ _) (hR.trans (hR.setEj _ _) (hR.setBetween _ _))))
  cases p
  · exact hR.gateStep u ev
  · exact hR.fires u ev
  · exact hR.verifies u ev
  · exact hR.trackStep u ev

/-- R34: the close of a coil window. -/
theorem closeWindow (s : State) (o : WindowClose) : R s (s.closeWindow o) :=
  hR.trans (hR.setGate s _) (hR.trans (hR.setBetween _ _) (hR.trans (hR.foldl _ hR.handOver _ _) (hR.setBetween _ _)))

end ItemWork

end Sys2Proof.Machine

/-! Every step keeps the ejector outputs where they may be on (R126, R184, R185). -/

namespace Sys2Proof.Machine

/-- Between `s` and `t` no output comes on, no pulse begins and no schedule fills. -/
def Quieter (s t : State) : Prop := ∀ b,
  ((t.ej.get b).shadow = true → (s.ej.get b).shadow = true ∧ (t.ej.get b).state = (s.ej.get b).state) ∧
  ((t.ej.get b).state = .pulsing → (s.ej.get b).state = .pulsing) ∧
  ((s.ej.get b).schedule = [] → (t.ej.get b).schedule = [])

theorem quieter_of_ej {s t : State} (h : t.ej = s.ej) : Quieter s t := by
  intro b
  rw [h]
  exact ⟨fun hx => ⟨hx, rfl⟩, id, id⟩

/-- One ejector's record changes. -/
theorem quieter_set {s t : State} (b : BinNo) (x : Ejector) (he : t.ej = s.ej.set b x)
    (hshadow : x.shadow = true → (s.ej.get b).shadow = true ∧ x.state = (s.ej.get b).state)
    (hpulse : x.state = .pulsing → (s.ej.get b).state = .pulsing)
    (hsched : (s.ej.get b).schedule = [] → x.schedule = []) : Quieter s t := by
  intro c
  rw [he]
  by_cases hcb : c = b
  · subst hcb
    rw [Quad.get_set_same]
    exact ⟨hshadow, hpulse, hsched⟩
  · rw [Quad.get_set_other _ _ _ _ hcb]
    exact ⟨fun hx => ⟨hx, rfl⟩, id, id⟩

/-- The mode, and both records of the safety chain with its closing wait, are the same. -/
structure ChainSame (s t : State) : Prop where
  mode : t.ctl.mode = s.ctl.mode
  pin : t.pins.chainClosed = s.pins.chainClosed
  closed : t.ctl.chainClosed = s.ctl.chainClosed
  timer : t.ctl.chainTimer.isSome = s.ctl.chainTimer.isSome

theorem ChainSame.of_ctl {s t : State} (hctl : t.ctl = s.ctl := by simp)
    (hpin : t.pins.chainClosed = s.pins.chainClosed := by simp) : ChainSame s t :=
  ⟨by rw [hctl], hpin, by rw [hctl], by rw [hctl]⟩

theorem outputsAllowed_of_quieter {s t : State} (hchain : ChainSame s t) (hej : Quieter s t) (h : OutputsAllowed s) :
    OutputsAllowed t := by
  obtain ⟨hshadow, hrun, hclosed, hwait⟩ := h
  refine ⟨fun b hb => ?_, fun b hb => ?_, fun hm => ?_, fun hm => ?_⟩
  · obtain ⟨hbefore, hstate⟩ := (hej b).1 hb
    rw [hstate]
    exact hshadow b hbefore
  · rw [hchain.mode]
    obtain ⟨-, hpulse, hsched⟩ := hej b
    exact hrun b (hb.imp hpulse (mt hsched))
  · rw [hchain.mode] at hm
    rw [hchain.pin, hchain.closed]
    exact hclosed hm
  · rw [hchain.timer] at hm
    rw [hchain.pin, hchain.mode]
    exact hwait hm

theorem outputsAllowed_of_same {s t : State} (hchain : ChainSame s t) (hej : t.ej = s.ej) (h : OutputsAllowed s) :
    OutputsAllowed t := outputsAllowed_of_quieter hchain (quieter_of_ej hej) h

/-- Outside RUN nothing pulses and nothing is scheduled. -/
theorem OutputsAllowed.resting {s : State} (h : OutputsAllowed s) (hmode : s.ctl.mode ≠ .run) : Resting s.ej := by
  obtain ⟨-, hrun, -⟩ := h
  exact fun b => ⟨fun hp => hmode (hrun b (.inl hp)), by
    by_contra hsched
    exact hmode (hrun b (.inr hsched))⟩

/-- What the work on items keeps, an event of a running station keeps. -/
theorem outputsAllowed_of_keepsOutputs {s t : State} (hk : KeepsOutputs s t) (hchain : ChainSame s t)
    (hrunning : s.running = true) (h : OutputsAllowed s) : OutputsAllowed t := by
  obtain ⟨hshadow, hrun, hclosed, hwait⟩ := h
  obtain ⟨-, hkshadow, hkrest⟩ := hk
  refine ⟨hkshadow hshadow, fun b hb => ?_, fun hm => ?_, fun hm => ?_⟩
  · rw [hchain.mode]
    by_contra hnot
    have hmode : s.ctl.mode = .safe ∨ s.ctl.mode = .service := by
      unfold State.running at hrunning
      cases hm : s.ctl.mode <;> simp_all [Mode.running]
    obtain ⟨hpulse, hsched⟩ := hkrest hmode (OutputsAllowed.resting ⟨hshadow, hrun, hclosed, hwait⟩ hnot) b
    exact hb.elim hpulse (fun hx => hx hsched)
  · rw [hchain.mode] at hm
    rw [hchain.pin, hchain.closed]
    exact hclosed hm
  · rw [hchain.timer] at hm
    rw [hchain.pin, hchain.mode]
    exact hwait hm

/-- With every pulse cut and every schedule empty, the outputs are allowed in any mode whose chain fits. -/
theorem outputsAllowed_of_resting {t : State} (hshadow : Shadowed t.ej) (hrest : Resting t.ej)
    (hclosed : t.ctl.mode = .run ∨ t.ctl.mode = .service → t.pins.chainClosed = true ∧ t.ctl.chainClosed = true)
    (hwait : t.ctl.chainTimer.isSome = true → t.ctl.mode = .safe ∧ t.pins.chainClosed = true) : OutputsAllowed t :=
  ⟨hshadow, fun b hb => absurd hb (by simp [hrest b]), hclosed, hwait⟩

theorem OutputsAllowed.wait_none {s : State} (h : OutputsAllowed s) (hmode : s.ctl.mode ≠ .safe) :
    s.ctl.chainTimer = none := by
  obtain ⟨-, -, -, hwait⟩ := h
  rw [← Option.not_isSome_iff_eq_none]
  exact fun hsome => hmode (hwait hsome).1

/-! ### The modes (R183 to R185) -/

theorem shadowed_cutAll {s : State} (h : Shadowed s.ej) : Shadowed s.cutAll.ej := by
  intro b hb
  obtain ⟨-, -, hshadow⟩ := cutAll_ejector s b
  rw [hshadow] at hb
  by_cases hp : (s.ej.get b).state = .pulsing
  · simp [hp] at hb
  · rw [if_neg hp] at hb
    exact absurd (h b hb) hp

theorem shadowed_cancelAll {s : State} (r : PassReason) (h : Shadowed s.ej) : Shadowed (s.cancelAll r).ej := by
  intro b hb
  rw [cancelAll_ejector] at hb ⊢
  exact h b hb

/-- R133: cancelled and cut, in either order, the ejectors rest. -/
theorem resting_cutAll_cancelAll (s : State) (r : PassReason) : Resting ((s.cancelAll r).cutAll).ej := by
  intro b
  obtain ⟨hstate, hsched, -⟩ := cutAll_ejector (s.cancelAll r) b
  exact ⟨hstate, by rw [hsched, cancelAll_ejector]⟩

theorem resting_cancelAll_cutAll (s : State) (r : PassReason) : Resting ((s.cutAll).cancelAll r).ej := by
  intro b
  obtain ⟨hstate, -, -⟩ := cutAll_ejector s b
  rw [cancelAll_ejector]
  exact ⟨hstate, rfl⟩

theorem resting_cutAll {s : State} (h : Resting s.ej) : Resting s.cutAll.ej := by
  intro b
  obtain ⟨hstate, hsched, -⟩ := cutAll_ejector s b
  exact ⟨hstate, hsched.trans (h b).2⟩

/-- R184: the entry to SAFE, from RUN or with nothing scheduled. -/
theorem outputsAllowed_enterSafe {s : State} (hshadow : Shadowed s.ej) (hrest : s.ctl.mode ≠ .run → Resting s.ej) :
    OutputsAllowed s.enterSafe := by
  by_cases hmode : s.ctl.mode = .run
  · have hej : s.enterSafe.ej = (s.cutAll.cancelAll .safety).ej := by simp [State.enterSafe, hmode]
    refine outputsAllowed_of_resting ?_ ?_ ?_ ?_
    · rw [hej]; exact shadowed_cancelAll _ (shadowed_cutAll hshadow)
    · rw [hej]; exact resting_cancelAll_cutAll s .safety
    · simp [State.enterSafe]
    · simp [State.enterSafe]
  · have hej : s.enterSafe.ej = s.cutAll.ej := by simp [State.enterSafe, hmode]
    refine outputsAllowed_of_resting ?_ ?_ ?_ ?_
    · rw [hej]; exact shadowed_cutAll hshadow
    · rw [hej]; exact resting_cutAll (hrest hmode)
    · simp [State.enterSafe]
    · simp [State.enterSafe]

/-- R183: the entry to SERVICE from RUN. -/
theorem outputsAllowed_enterService {s : State} (hmode : s.ctl.mode = .run) (h : OutputsAllowed s) :
    OutputsAllowed s.enterService := by
  have hwait := h.wait_none (by simp [hmode])
  obtain ⟨hshadow, -, hclosed, -⟩ := h
  have hej : s.enterService.ej = ((s.cancelAll .service).cutAll).ej := by simp [State.enterService, State.setMode]
  refine outputsAllowed_of_resting ?_ ?_ ?_ ?_
  · rw [hej]; exact shadowed_cutAll (shadowed_cancelAll _ hshadow)
  · rw [hej]; exact resting_cutAll_cancelAll s .service
  · intro _
    simpa [State.enterService, State.setMode] using hclosed (.inl hmode)
  · simp [State.enterService, State.setMode, hwait]

theorem shadowed_clearFault {s : State} (b : BinNo) (h : Shadowed s.ej) : Shadowed (s.clearFault b).ej := by
  have hkeep : ∀ x : Ejector, (x.shadow = true → x.state = .pulsing) → Shadowed (s.ej.set b x) := by
    intro x hx c
    by_cases hcb : c = b
    · subst hcb; rw [Quad.get_set_same]; exact hx
    · rw [Quad.get_set_other _ _ _ _ hcb]; exact h c
  unfold State.clearFault
  dsimp only
  split
  · next hfault =>
    simp only [showFault_frame]
    exact hkeep _ fun hx => by simpa [hfault] using h b hx
  · exact hkeep _ (h b)

/-- R183: the exit from SERVICE to RUN. -/
theorem outputsAllowed_leaveService {s : State} (hmode : s.ctl.mode = .service) (h : OutputsAllowed s) :
    OutputsAllowed s.leaveService := by
  have hwait := h.wait_none (by simp [hmode])
  obtain ⟨hshadow, -, hclosed, -⟩ := h
  have hfaults : ∀ (l : List BinNo) (u : State), Shadowed u.ej → Shadowed (l.foldl State.clearFault u).ej := by
    intro l
    induction l with
    | nil => exact fun u hu => hu
    | cons b rest ih => exact fun u hu => ih _ (shadowed_clearFault b hu)
  have hctl : ∀ (l : List BinNo) (u : State), (l.foldl State.clearFault u).ctl = u.ctl :=
    fun l u => foldl_keeps State.ctl _ (by simp) l u
  have hpins : ∀ (l : List BinNo) (u : State), (l.foldl State.clearFault u).pins = u.pins :=
    fun l u => foldl_keeps State.pins _ (by simp) l u
  refine ⟨?_, fun b _ => ?_, fun _ => ?_, ?_⟩
  · simp only [State.leaveService, askBinstate_frame]
    refine hfaults allBins _ ?_
    simp only [leaveVisit_frame, State.setMode, setCtl_ej]
    exact hshadow
  · simp [State.leaveService, hctl, State.setMode]
  · simpa [State.leaveService, hctl, hpins, State.setMode] using hclosed (.inr hmode)
  · simp [State.leaveService, hctl, State.setMode, hwait]

/-- R185: the exit from SAFE, the chain closed for its wait. -/
theorem outputsAllowed_safeExit {s : State} (h : OutputsAllowed s) : OutputsAllowed s.safeExit := by
  unfold State.safeExit
  split
  · next hdue =>
    obtain ⟨hsafe, hdue⟩ := hdue
    have hrest := h.resting (by simp [hsafe])
    obtain ⟨hshadow, -, -, hwait⟩ := h
    have hrunning : s.ctl.chainTimer.isSome = true := by
      cases ht : s.ctl.chainTimer with
      | none => simp [ht, Timer.due] at hdue
      | some r => rfl
    refine outputsAllowed_of_resting ?_ ?_ ?_ ?_
    · have hej : s.leaveSafe.ej = s.ej := by simp [State.leaveSafe]
      rw [hej]
      exact hshadow
    · have hej : s.leaveSafe.ej = s.ej := by simp [State.leaveSafe]
      rw [hej]
      exact hrest
    · simp [State.leaveSafe, (hwait hrunning).2]
    · simp [State.leaveSafe]
  · exact h

theorem outputsAllowed_keyPress {s : State} (h : OutputsAllowed s) : OutputsAllowed s.keyPress := by
  have htaken : OutputsAllowed (s.takeKey true) :=
    outputsAllowed_of_same ⟨rfl, rfl, rfl, rfl⟩ (by simp) h
  unfold State.keyPress State.press
  split
  · split
    · next hmode => exact outputsAllowed_enterService hmode htaken
    · next hmode => exact outputsAllowed_leaveService hmode htaken
    · exact htaken
    · exact htaken
    · exact htaken
  · exact h

theorem outputsAllowed_chainOpens {s : State} (h : OutputsAllowed s) : OutputsAllowed s.chainOpens := by
  have hopen : ∀ u : State, u.ej = s.ej → u.ctl.mode = s.ctl.mode → u.ctl.mode ≠ .run → u.ctl.mode ≠ .service →
      u.ctl.chainTimer = none → OutputsAllowed u := by
    intro u hej hmode hrun hservice hwait
    have hrest := h.resting (by rwa [← hmode])
    obtain ⟨hshadow, -⟩ := h
    exact outputsAllowed_of_resting (by rw [hej]; exact hshadow) (by rw [hej]; exact hrest)
      (fun hx => absurd hx (by simp [hrun, hservice])) (by simp [hwait])
  have henter : ∀ u : State, u.ej = s.ej → u.ctl.mode = s.ctl.mode → OutputsAllowed u.enterSafe := by
    intro u hej hmode
    refine outputsAllowed_enterSafe (by rw [hej]; exact h.1) fun hx => ?_
    rw [hej]
    exact h.resting (by rwa [← hmode])
  unfold State.chainOpens
  dsimp only
  split
  · exact henter _ rfl rfl
  · exact henter _ rfl rfl
  · next hmode =>
    have hsafe : s.ctl.mode = .safe := hmode
    exact hopen _ rfl rfl (by simp [hsafe]) (by simp [hsafe]) rfl
  · next hmode =>
    have hstart : s.ctl.mode = .start := hmode
    exact hopen _ rfl rfl (by simp [hstart]) (by simp [hstart]) (h.wait_none (by simp [hstart]))
  · next hmode =>
    have hhalted : s.ctl.mode = .halted := hmode
    exact hopen _ rfl rfl (by simp [hhalted]) (by simp [hhalted]) (h.wait_none (by simp [hhalted]))

theorem outputsAllowed_chainCloses {s : State} (h : OutputsAllowed s) : OutputsAllowed s.chainCloses := by
  unfold State.chainCloses
  dsimp only
  split
  · exact h
  obtain ⟨hshadow, hrun, hclosed, hwait⟩ := h
  split
  · next hsafe =>
    have hmode : s.ctl.mode = .safe := hsafe
    exact ⟨hshadow, hrun, fun hx => by simp [hmode] at hx, fun _ => ⟨hmode, rfl⟩⟩
  · exact ⟨hshadow, hrun, fun hx => ⟨rfl, (hclosed hx).2⟩, fun hx => ⟨(hwait hx).1, rfl⟩⟩

/-! ### START (R179), and the address clash (R181) -/

/-- R137, R179: the run notice: faults alone touch the ejectors, and an open chain enters SAFE at once. -/
theorem outputsAllowed_runNotice {s : State} (image : List Byte) (hmode : s.ctl.mode = .start) (h : OutputsAllowed s) :
    OutputsAllowed (s.runNotice image) := by
  have hwait := h.wait_none (by simp [hmode])
  obtain ⟨hshadow, -⟩ := h
  have hfault : ∀ (u : State) (b : BinNo), KeepsOutputs u (u.startEjector b) := by
    intro u b
    unfold State.startEjector
    split
    · exact keepsOutputs_enterFault u b
    · exact keepsOutputs_refl u
  have hctl : ∀ (l : List BinNo) (u : State), (l.foldl State.startEjector u).ctl = u.ctl :=
    fun l u => foldl_keeps State.ctl _ (by simp) l u
  have hpins : ∀ (l : List BinNo) (u : State), (l.foldl State.startEjector u).pins = u.pins :=
    fun l u => foldl_keeps State.pins _ (by simp) l u
  unfold State.runNotice
  dsimp only
  generalize hs2 : State.createOwnEntry _ = s2
  have hs2ej : s2.ej = s.ej := by subst hs2; simp [State.createOwnEntry, State.startGate, State.startPosition, State.takeTable]
  have hs2pins : s2.pins = s.pins := by subst hs2; simp [State.createOwnEntry, State.startGate, State.startPosition, State.takeTable]
  have hs2ctl : s2.ctl = s.ctl.toRun s.pins := by
    subst hs2; simp [State.createOwnEntry, State.startGate, State.startPosition, State.takeTable]
  have hshadow3 : Shadowed (s2.cfg.configuredBins.foldl State.startEjector s2).ej := by
    obtain ⟨-, hkeep, -⟩ := keepsOutputs_foldl State.startEjector hfault s2.cfg.configuredBins s2
    exact hkeep (by rwa [hs2ej])
  split
  · next hclosed =>
    simp only [startBins_frame, join_frame, hpins, hs2pins] at hclosed
    refine ⟨?_, fun b _ => ?_, fun _ => ?_, ?_⟩
    · simp only [startBins_frame, join_frame]
      exact hshadow3
    · simp [hctl, hs2ctl, ModeController.toRun]
    · simp [hctl, hs2ctl, hpins, hs2pins, ModeController.toRun, hclosed]
    · simp [hctl, hs2ctl, ModeController.toRun]
  · refine outputsAllowed_enterSafe ?_ fun hx => absurd ?_ hx
    · simp only [startBins_frame, join_frame]
      exact hshadow3
    · simp [hctl, hs2ctl, ModeController.toRun]

/-- Held in START or HALTED, with the ejectors as they were and no wait of the chain, the outputs are allowed. -/
theorem outputsAllowed_of_stopped {s t : State} (hej : t.ej = s.ej) (hmode : s.ctl.mode = .start)
    (htimer : t.ctl.chainTimer = s.ctl.chainTimer) (ht : t.ctl.mode = .start ∨ t.ctl.mode = .halted) (h : OutputsAllowed s) :
    OutputsAllowed t := by
  have hwait := h.wait_none (by simp [hmode])
  refine outputsAllowed_of_resting (by rw [hej]; exact h.1) (by rw [hej]; exact h.resting (by simp [hmode])) ?_ ?_
  · obtain ht | ht := ht <;> simp [ht]
  · simp [htimer, hwait]

theorem outputsAllowed_of_ejectorsReset {t : State} (hej : t.ej = Quad.all Ejector.reset) (hwait : t.ctl.chainTimer = none)
    (hmode : t.ctl.mode = .start ∨ t.ctl.mode = .halted) : OutputsAllowed t := by
  refine outputsAllowed_of_resting (fun b => by simp [hej, Ejector.reset]) (fun b => by simp [hej, Ejector.reset]) ?_
    (by simp [hwait])
  obtain hmode | hmode := hmode <;> simp [hmode]

theorem outputsAllowed_of_lineOrClash {s t : State} (hcase : LineOrClash s t) (hpin : t.pins = s.pins)
    (h : OutputsAllowed s) : OutputsAllowed t := by
  obtain hline | ⟨u, -, rfl⟩ := hcase
  · exact outputsAllowed_of_same (.of_ctl hline.ctl (by rw [hpin])) hline.ej h
  · exact outputsAllowed_of_ejectorsReset rfl rfl (.inr rfl)

/-! ### The commands -/

/-- R125: a pulse that ends, and a recovery that ends, each begin nothing. -/
theorem outputsAllowed_pulseEnds {s : State} (b : BinNo) (h : OutputsAllowed s) : OutputsAllowed (s.pulseEnds b) := by
  refine outputsAllowed_of_quieter .of_ctl ?_ h
  unfold State.pulseEnds
  dsimp only
  split
  · exact quieter_set b ((s.ej.get b).recover (s.binCfg b).recoveryMs) rfl (by simp [Ejector.recover])
      (by simp [Ejector.recover]) (by simp [Ejector.recover])
  · exact quieter_of_ej rfl

theorem quieter_enterFault (s : State) (b : BinNo) : Quieter s (s.enterFault b) := by
  by_cases hfault : (s.ej.get b).state = .fault
  · exact quieter_of_ej (by simp [State.enterFault, hfault])
  · exact quieter_set b _ (enterFault_ej s b hfault) (by simp) (by simp) (by simp)

theorem outputsAllowed_recoveryEnds {s : State} (b : BinNo) (home : Bool) (h : OutputsAllowed s) :
    OutputsAllowed (s.recoveryEnds b home) := by
  have hpin : (s.recoveryEnds b home).pins.chainClosed = s.pins.chainClosed := by
    unfold State.recoveryEnds
    dsimp only
    (repeat' split) <;> simp [State.senseHome]
  refine outputsAllowed_of_quieter (.of_ctl (by simp) hpin) ?_ h
  have hready : (s.ej.get b).state = .recovering → ∀ t : State,
      t.ej = s.ej.set b { s.ej.get b with state := .ready, recovery := none } → Quieter s t := fun hrec t hej =>
    quieter_set b _ hej (fun hx => absurd (h.1 b hx) (by simp [hrec])) (fun hx => by simp at hx) id
  unfold State.recoveryEnds
  dsimp only
  split
  · next hdue =>
    split
    · split
      · exact hready hdue.1 _ rfl
      · exact quieter_enterFault (s.senseHome b home) b
    · exact hready hdue.1 _ rfl
  · exact quieter_of_ej rfl

/-- A change on the belt keeps the outputs, and reads nothing of the chain. -/
theorem beltKeepsOutputs :
    BeltKeeps (fun s t => KeepsOutputs s t ∧ t.pins.chainClosed = s.pins.chainClosed) where
  refl s := ⟨keepsOutputs_refl s, rfl⟩
  trans h1 h2 := ⟨keepsOutputs_trans h1.1 h2.1, h2.2.trans h1.2⟩
  setPos s p := ⟨keepsOutputs_same (by simp) (by simp), by simp⟩
  boundary s k := ⟨keepsOutputs_same (by simp) (by simp), by simp⟩
  announce s c := ⟨keepsOutputs_same (by simp) (by simp), by simp⟩
  stepEvent s m ev := ⟨keepsOutputs_stepEvent s m ev, by
    have hparts : ∀ (l : List StepPart) (u : State), (l.foldl (State.runPart ev) u).pins = u.pins :=
      fun l u => foldl_keeps State.pins _ (by simp) l u
    simp [State.stepEvent, hparts, State.sample, Pins.sample]⟩

theorem outputsAllowed_attemptFailed {s : State} (hmode : s.ctl.mode = .start) (h : OutputsAllowed s) :
    OutputsAllowed s.attemptFailed := by
  unfold State.attemptFailed
  dsimp only
  split
  · exact outputsAllowed_of_stopped (s := s) rfl hmode rfl (.inr rfl) h
  · exact outputsAllowed_of_stopped (s := s) rfl hmode rfl (.inl hmode) h

theorem outputsAllowed_readDone {s : State} (image : List Byte) (hmode : s.ctl.mode = .start) (h : OutputsAllowed s) :
    OutputsAllowed (s.readDone image) := by
  unfold State.readDone
  dsimp only
  split
  · exact outputsAllowed_runNotice _ hmode (outputsAllowed_of_same (s := s) ⟨rfl, rfl, rfl, rfl⟩ rfl h)
  · split <;> exact outputsAllowed_of_stopped (s := s) rfl hmode rfl (.inr rfl) h

theorem outputsAllowed_effect (c : Instr) (s : State) (h : OutputsAllowed s) : OutputsAllowed (effect c s) := by
  by_cases hline : onLine c = true
  · refine outputsAllowed_of_lineOrClash (lineOrClash_effect c hline s) ?_ h
    cases c <;> first | contradiction | (simp only [effect, State.hears]; try split) <;> simp
  have hsame : ∀ t : State, ChainSame s t → t.ej = s.ej → OutputsAllowed t :=
    fun t hchain hej => outputsAllowed_of_same hchain hej h
  have hevent : ∀ t : State, t.ctl = s.ctl → t.pins.chainClosed = s.pins.chainClosed →
      (s.running = true → KeepsOutputs s t) → (s.running = false → t = s) → OutputsAllowed t := by
    intro t hctl hpin hkeeps hheld
    cases hrun : s.running with
    | true => exact outputsAllowed_of_keepsOutputs (hkeeps hrun) (.of_ctl hctl hpin) hrun h
    | false => rw [hheld hrun]; exact h
  have hstopped : s.ctl.mode = .start → ∀ t : State, t.ej = s.ej → t.ctl.chainTimer = s.ctl.chainTimer →
      t.ctl.mode = .start ∨ t.ctl.mode = .halted → OutputsAllowed t :=
    fun hmode t hej htimer ht => outputsAllowed_of_stopped hej hmode htimer ht h
  have hreads : s.reading = true → s.ctl.mode = .start := fun hr => by
    simp only [State.reading, Bool.and_eq_true, beq_iff_eq] at hr
    exact hr.1
  cases c <;> first | exact absurd rfl hline | simp only [effect]
  case powerOnReset => exact outputsAllowed_of_ejectorsReset rfl rfl (.inl rfl)
  case externalReset => exact outputsAllowed_of_ejectorsReset rfl rfl (.inl rfl)
  case start =>
    unfold State.beginStart
    split
    · next hmode => exact hstopped hmode.1 _ rfl rfl (.inl hmode.1)
    · exact h
  case attemptFailure =>
    unfold State.failAttempt
    split
    · next hreading => exact outputsAllowed_attemptFailed (hreads hreading) h
    · exact h
  case configReadRetry =>
    unfold State.retryRead
    split
    · next hmode => exact hstopped hmode.1 _ rfl rfl (.inl hmode.1)
    · exact h
  case configReadComplete dt memory home =>
    have hsensed : OutputsAllowed (s.setPins { s.pins with armHome := home }) := hsame _ ⟨rfl, rfl, rfl, rfl⟩ rfl
    unfold State.completeRead
    split
    · next hreading =>
      split
      · exact outputsAllowed_readDone _ (hreads hreading) hsensed
      · exact outputsAllowed_attemptFailed (hreads hreading) hsensed
    · exact h
  case rawPulse dt m =>
    obtain ⟨hkeeps, hpin⟩ := beltKeepsOutputs.rawPulse s m
    exact hevent _ (by simp) hpin (fun _ => hkeeps) (fun hrun => by simp [State.rawPulse, hrun])
  case slatMark dt m =>
    obtain ⟨hkeeps, hpin⟩ := beltKeepsOutputs.slatMark s m
    exact hevent _ (by simp) hpin (fun _ => hkeeps) (fun hrun => by simp [State.slatMark, hrun])
  case fallbackStep dt m =>
    obtain ⟨hkeeps, hpin⟩ := beltKeepsOutputs.fallbackStep s m
    exact hevent _ (by simp) hpin (fun _ => hkeeps) (fun hrun => by simp [State.fallbackStep, hrun])
  case coilWindowClose dt close =>
    refine hevent _ (by simp) (by simp) (fun hrun => ?_) (fun hrun => by simp [State.windowEnds, hrun])
    unfold State.windowEnds
    split
    · exact keepsOutputs_closeWindow s close
    · exact keepsOutputs_refl s
  case removal dt b =>
    exact hevent _ (by simp) (by simp) (fun _ => keepsOutputs_removal s b)
      (fun hrun => by simp [State.removal, State.settled, hrun])
  case fullSensorRise dt b =>
    exact hevent _ (by simp) (by simp) (fun _ => keepsOutputs_fullSensorRise s b)
      (fun hrun => by simp [State.fullSensorRise, State.settled, hrun])
  case pulseTimerExpiry dt b => exact outputsAllowed_pulseEnds b h
  case recoveryTimerExpiry dt b home => exact outputsAllowed_recoveryEnds b home h
  case seamReport => exact hsame _ .of_ctl (by simp)
  case encoderWatchdogExpiry => exact hsame _ .of_ctl (by simp)
  case beltRunChange dt on =>
    refine hsame _ (.of_ctl (by simp) ?_) (by simp)
    unfold State.beltRun
    dsimp only
    (repeat' split) <;> rfl
  case foreignAttentionPulseEnd => exact hsame _ .of_ctl (by simp)
  case binSensorChange dt b sensor level =>
    refine hsame _ (.of_ctl (by simp) ?_) (by simp)
    unfold State.binSensorChange Pins.setBinSensor
    dsimp only
    (repeat' split) <;> rfl
  case insertion => exact hsame _ .of_ctl (by simp)
  case fullSensorFall => exact hsame _ .of_ctl (by simp)
  case binstatePeriodTimer => exact hsame _ .of_ctl (by simp)
  case statusPeriodTimer =>
    refine hsame _ ?_ (by simp)
    unfold State.statusPeriod
    split
    · constructor <;> simp
    · exact .of_ctl rfl rfl
  case serviceKeyChange dt turned =>
    refine hsame _ ?_ (by simp)
    unfold State.keyChange
    dsimp only
    (repeat' split) <;> exact ⟨rfl, rfl, rfl, rfl⟩
  case serviceKeyPress => exact outputsAllowed_keyPress h
  case safetyChainOpening => exact outputsAllowed_chainOpens h
  case safetyChainClosing => exact outputsAllowed_chainCloses h
  case safeExit => exact outputsAllowed_safeExit h
  case oscillatorEdge => exact hsame _ .of_ctl (by simp)
  case keySettledRelease =>
    refine hsame _ ?_ (by simp)
    unfold State.keyRelease
    split <;> exact ⟨rfl, rfl, rfl, rfl⟩

/-- Settles O54: passing time, the effects and the end of an event each keep the outputs where they may be on. -/
theorem stepKeepsOutputsAllowed : Obligations.StepKeepsOutputsAllowed := by
  intro s t hs hstep
  refine step_keeps (P := OutputsAllowed) (fun s rest h => h) (fun s dt h => ?_) outputsAllowed_effect (fun s h => ?_) hs hstep
  · refine outputsAllowed_of_quieter ⟨by simp [State.elapse, ModeController.elapse], by simp [State.elapse],
      by simp [State.elapse, ModeController.elapse], by simp⟩ (fun b => ?_) h
    simp only [elapse_ejector]
    exact ⟨fun hx => ⟨hx, trivial⟩, id, id⟩
  · refine outputsAllowed_of_same ?_ (by simp) h
    constructor <;> simp

end Sys2Proof.Machine

/-! The laws of the bin record are not inductive: no law of them says which mode a station in SAFE holds, and R185 returns to
whatever mode is held. -/

namespace Sys2Proof.Machine

/-- An item that passes. -/
def passingItem : TransitEntry :=
  { ticket := freshTicket ⟨0, 0, 1, false, 1, 0, none⟩, ref := 0, state := .pass .safety, localStray := true,
    exitBlocked := false, exitDone := false }

/-- In SAFE with START as the held mode, an item on the belt, and the closing wait over: no run of the station holds START,
but the laws allow it. -/
def safeHoldingStart : State :=
  { State.reset with
    ctl := { State.reset.ctl with mode := .safe, phase := .ended, heldMode := some .start, chainTimer := some 0 }
    trk := { State.reset.trk with transit := [passingItem] }
    pending := [.safeExit 0] }

theorem binLaws_safeHoldingStart : BinLaws safeHoldingStart := by
  refine ⟨fun b => ?balance, ⟨by decide, fun b => ?items⟩, fun b _ => ?absent, fun q hq => ?visit, fun hmode => ?start⟩
  case balance => cases b <;> decide
  case items =>
    have hej : safeHoldingStart.ej.get b = Ejector.reset := Quad.get_all _ b
    have hentry : ∀ e ∈ safeHoldingStart.trk.transit, e = passingItem := fun e he => List.mem_singleton.mp he
    rw [hej]
    refine ⟨by decide, by decide, by simp [Ejector.reset], fun e he fp hs => ?_, by simp [Ejector.reset],
      fun e he fp d hs => ?_⟩
    · rw [hentry e he] at hs
      exact absurd hs (by simp [passingItem])
    · rw [hentry e he] at hs
      exact absurd hs (by simp [passingItem])
  case absent => cases b <;> rfl
  case visit => exact absurd hq (by simp [safeHoldingStart, State.reset, BinUnit.reset])
  case start => exact absurd hmode (by decide)

/-- Refutes O56: the exit from SAFE (R185) returns to the held mode; where that is START the item stays in the Transit List,
which START's law in AbsenceShown excludes. -/
theorem not_stepKeepsBinLaws : ¬ Obligations.StepKeepsBinLaws := by
  intro h
  obtain ⟨t, hstep, hmode, hitem⟩ : ∃ t, step safeHoldingStart = .next t ∧ t.ctl.mode = .start ∧
      t.trk.transit = [passingItem] := ⟨_, rfl, by decide, by decide⟩
  obtain ⟨-, -, -, -, hstart⟩ := h _ t binLaws_safeHoldingStart hstep
  obtain ⟨hempty, -⟩ := hstart hmode
  rw [hitem] at hempty
  exact absurd hempty (by decide)

end Sys2Proof.Machine

/-! The queue, the resets, and the invariants at reset (logs 1 and 3, R173, R174). -/

namespace Sys2Proof.Machine

/-- Settles O1: the front command is taken off the queue and run. -/
theorem stepRunsFrontCommand : Obligations.StepRunsFrontCommand := fun _ _ _ => rfl

/-- Settles O2. -/
theorem emptyQueueIdles : Obligations.EmptyQueueIdles := by
  intro s hempty
  unfold step
  rw [hempty]

/-- Settles O4: block by block. -/
theorem resetStateHoldsListedValues : Obligations.ResetStateHoldsListedValues := by
  refine ⟨by decide, by decide, by decide, by decide, by decide, by decide, by decide, by decide, by decide, by decide,
    fun k => ?_⟩
  cases k <;> rfl

/-- Settles O5: after a reset no BINSTATE is asked for and the lamp is off already, so the end of the event changes nothing. -/
theorem resetsGiveEveryBlockItsValues : Obligations.ResetsGiveEveryBlockItsValues := fun _ _ => ⟨rfl, rfl⟩

/-- Settles O57: at reset nothing runs, no ejector pulses, and no bin and no list holds anything. -/
theorem invariantsHoldAtReset : Obligations.InvariantsHoldAtReset := by
  have hej : ∀ b, State.reset.ej.get b = Ejector.reset := fun b => Quad.get_all _ b
  refine ⟨outputsAllowed_of_ejectorsReset rfl rfl (.inl rfl), positionInRange_of_halted (.inl rfl),
    fun b => ?balance, ⟨by decide, fun b => ?items⟩, fun b _ => ?absent, fun q hq => ?visit, fun _ => ?start⟩
  case balance => cases b <;> decide
  case items =>
    rw [hej]
    refine ⟨by decide, by decide, by simp [Ejector.reset], ?_, by simp [Ejector.reset], ?_⟩ <;>
      simp [State.reset, TrackingUnit.reset]
  case absent => cases b <;> rfl
  case visit => exact absurd hq (by simp [State.reset, BinUnit.reset])
  case start => exact ⟨rfl, rfl, fun b => by cases b <;> rfl⟩

end Sys2Proof.Machine

/-! No counter falls (R187): every operation is made of counted events and of changes that leave the counters. -/

namespace Sys2Proof.Machine

/-- No counter of `t` is below that of `s`. -/
def Rising (s t : State) : Prop := ∀ k, s.counters.get k ≤ t.counters.get k

theorem rising_of_same {s t : State} (h : t.counters = s.counters := by simp) : Rising s t :=
  fun k => by rw [h]

theorem Rising.refl (s : State) : Rising s s := fun _ => Nat.le_refl _

theorem Rising.trans {s t u : State} (h1 : Rising s t) (h2 : Rising t u) : Rising s u :=
  fun k => Nat.le_trans (h1 k) (h2 k)

/-- A change that counts nothing, before or after. -/
theorem Rising.after {s t u : State} (h1 : t.counters = s.counters) (h2 : Rising t u) : Rising s u :=
  fun k => by rw [← h1]; exact h2 k

theorem Rising.before {s t u : State} (h1 : Rising s t) (h2 : u.counters = t.counters) : Rising s u :=
  fun k => by rw [h2]; exact h1 k

section
variable {s t : State} (h : Rising s t)
include h

theorem Rising.setLtu (u : LoopTraffic) : Rising s (t.setLtu u) := h
theorem Rising.setCtl (m : ModeController) : Rising s (t.setCtl m) := h
theorem Rising.setPort (p : LoopPort) : Rising s (t.setPort p) := h
theorem Rising.askBinstate : Rising s t.askBinstate := h
theorem Rising.enterVisit : Rising s t.enterVisit := h.before (by simp)
theorem Rising.startBins : Rising s t.startBins := h.before (by simp)
theorem Rising.announce (c : Condition) : Rising s (t.announce c) := h.before (by simp)

end

theorem rising_foldl {α : Type} (g : State → α → State) (h : ∀ s x, Rising s (g s x)) (l : List α) (s : State) :
    Rising s (l.foldl g s) := by
  induction l generalizing s with
  | nil => exact .refl s
  | cons x rest ih => exact (h s x).trans (ih _)

theorem rising_count (s : State) (k : Counter) : Rising s (s.count k) := le_get_count s k

theorem rising_countMany (s : State) (k : Counter) (n : Nat) : Rising s (s.countMany k n) :=
  fun j => le_get_countMany s k j n

theorem rising_enqueueOwn (s : State) (f : Frame) : Rising s (s.enqueueOwn f) := enqueueOwn_counter_le s f

/-- R187: the work on items counts and never lowers a counter. -/
theorem itemWork_rising : ItemWork Rising where
  refl := .refl
  trans := .trans
  setGate _ _ := rising_of_same
  setTrk _ _ := rising_of_same
  setEj _ _ := rising_of_same
  setPins _ _ := rising_of_same
  setRetention _ _ := rising_of_same
  setBin _ _ _ := rising_of_same
  takeSensor _ _ _ _ := rising_of_same
  setSlot _ _ _ := rising_of_same
  setBetween _ _ := rising_of_same
  count := rising_count
  enqueueOwn := rising_enqueueOwn

theorem beltKeeps_rising : BeltKeeps Rising where
  refl := .refl
  trans := .trans
  setPos _ _ := rising_of_same
  boundary s k := by
    unfold State.boundary
    exact (Rising.after (by simp) (rising_countMany _ _ _)).announce _
  announce _ _ := rising_of_same
  stepEvent := itemWork_rising.stepEvent

theorem rising_ticketArrival (s : State) (o : Nat) (p : List Byte) : Rising s (s.ticketArrival o p) := by
  have hcount : ∀ k, Rising s (s.count k) := rising_count s
  have hadmit : ∀ e, Rising s (s.admitTicket e) := by
    intro e
    unfold State.admitTicket
    split
    · exact rising_of_same
    split
    · split
      · exact .after (by simp) (rising_count _ _)
      · exact hcount _
    · exact hcount _
  have hlate : ∀ t, Rising s (s.lateTicket t) := by
    intro t
    unfold State.lateTicket
    split
    · exact hcount _
    split
    · exact .after (by simp) (rising_count _ _)
    · exact hcount _
  unfold State.ticketArrival State.testTicket
  dsimp only
  split
  · exact hcount _
  split
  · exact hcount _
  split
  · exact hcount _
  split
  · exact hcount _
  split
  · split
    · exact rising_of_same
    · exact hcount _
  split
  · exact hadmit _
  · exact hlate _

/-! ### Modes, START and the line -/

theorem rising_enterSafe (s : State) : Rising s s.enterSafe := by
  unfold State.enterSafe
  dsimp only
  refine (itemWork_rising.cutAll s).trans ?_
  split
  · exact ((itemWork_rising.cancelAll _ _).setCtl _).askBinstate
  · exact rising_of_same

theorem rising_press (s : State) : Rising s s.press := by
  unfold State.press
  split
  · exact ((itemWork_rising.cancelAll s _).trans (itemWork_rising.cutAll _)).enterVisit.setCtl _ |>.askBinstate
  · refine rising_of_same ?_
    have hclear : ∀ (l : List BinNo) (u : State), (l.foldl State.clearFault u).counters = u.counters :=
      fun l u => foldl_keeps State.counters _ (by simp) l u
    simp [State.leaveService, State.setMode, hclear]
  · exact .refl s
  · exact .refl s
  · exact .refl s

theorem rising_join (s : State) : Rising s s.join := by
  unfold State.join State.requestJoiningRoll
  exact .after (by simp) (rising_enqueueOwn _ _)

theorem rising_runNotice (s : State) (image : List Byte) : Rising s (s.runNotice image) := by
  have hfaults : ∀ (l : List BinNo) (u : State), Rising u (l.foldl State.startEjector u) := by
    refine fun l u => rising_foldl _ (fun u b => ?_) l u
    unfold State.startEjector
    split
    · exact itemWork_rising.enterFault u b
    · exact .refl u
  unfold State.runNotice
  dsimp only
  generalize hs2 : State.createOwnEntry _ = s2
  have hs2 : s2.counters = s.counters := by
    subst hs2
    simp [State.createOwnEntry, State.startGate, State.startPosition, State.takeTable]
  have hbegin : Rising s (s2.cfg.configuredBins.foldl State.startEjector s2).join.startBins :=
    (Rising.after hs2 ((hfaults _ _).trans (rising_join _))).startBins
  split
  · exact hbegin
  · exact hbegin.trans (rising_enterSafe _)

theorem rising_completeRead (memory : List Byte) (home : Quad Bool) (s : State) :
    Rising s (State.completeRead memory home s) := by
  have hfailed : ∀ u : State, Rising u u.attemptFailed := by
    intro u
    unfold State.attemptFailed
    dsimp only
    split <;> exact rising_of_same rfl
  unfold State.completeRead
  dsimp only
  split
  · split
    · unfold State.readDone
      dsimp only
      split
      · exact .after (by simp) (rising_runNotice _ _)
      · split <;> exact rising_of_same rfl
    · exact .after (by simp) (hfailed _)
  · exact .refl s

theorem rising_undelivered (s : State) (f : Frame) : Rising s (s.undelivered f) := by
  have hremove : Rising s (s.removePeer f.dest) := rising_of_same
  unfold State.undelivered
  dsimp only
  split
  · exact hremove.trans (rising_enqueueOwn _ _)
  · exact hremove.trans (rising_count _ _)

theorem rising_consumeAll (s : State) (f : Frame) : Rising s (s.consumeAll f) := by
  have hrecall : Rising s s.startRecall := by
    unfold State.startRecall
    dsimp only
    split
    · exact (rising_enqueueOwn s _).setLtu _
    · exact .refl s
  have hroll : Rising s (s.takeRoll f.origin f.payload) := by
    unfold State.takeRoll State.answerRoll
    dsimp only
    split
    · split
      · split
        · exact .after (by simp [State.setPeers]) (rising_enqueueOwn _ _)
        · exact rising_of_same rfl
      · exact rising_of_same rfl
    · exact rising_count s _
  unfold State.consumeAll State.binstateArrival
  split
  · exact hroll
  split
  · split
    · exact hrecall
    split
    · exact rising_of_same rfl
    · exact rising_count s _
  split
  · split
    · exact hrecall
    · exact .refl s
  · exact .refl s

theorem rising_frameArrival (s : State) (f : Frame) : Rising s (s.frameArrival f) := by
  have hrepeat : ∀ u : State, Rising u (u.repeatFrame f) := by
    intro u
    unfold State.repeatFrame
    split
    · exact rising_count u _
    · exact rising_of_same
  have hdispatch : ∀ u : State, Rising u (u.dispatch f) := by
    intro u
    unfold State.dispatch State.strip State.consumeOwn
    split
    · split
      · exact rising_of_same
      split
      · exact rising_undelivered u f
      · exact .refl u
    split
    · split
      · exact rising_ticketArrival u _ _
      · exact rising_count u _
    split
    · exact (rising_consumeAll u f).trans (hrepeat _)
    · exact hrepeat u
  unfold State.frameArrival
  split
  · exact Rising.after (t := s.hear f.origin) rfl (hdispatch _)
  · exact rising_count s _

theorem rising_lineDrop (s : State) : Rising s s.lineDrop := by
  unfold State.lineDrop
  split
  · exact .refl s
  · exact rising_count s _

theorem rising_discardTo (s : State) (rx : RxState) : Rising s (s.discardTo rx) := by
  unfold State.discardTo
  split
  · exact .after (by simp) (rising_lineDrop _)
  · exact rising_of_same

theorem rising_idleOne (s : State) : Rising s s.idleOne := by
  unfold State.idleOne
  dsimp only
  split
  · split
    · exact .after (by simp) (rising_join _)
    · exact rising_of_same
  · exact rising_of_same

theorem rising_pairCell (s : State) (c : CellClass) : Rising s (s.pairCell c) := by
  have hclose : Rising s s.closeFrame := by
    unfold State.closeFrame
    dsimp only
    split
    · split
      · exact rising_of_same
      · exact .after (by simp) (rising_frameArrival _ _)
    · exact .after (by simp) (rising_lineDrop _)
  unfold State.pairCell
  split
  · exact hclose
  · exact rising_idleOne s
  · exact rising_idleOne s
  · exact rising_discardTo s _
  · exact rising_discardTo s _
  · exact rising_discardTo s _

theorem rising_plainCell (s : State) (c : CellClass) : Rising s (s.plainCell c) := by
  have hgather : ∀ b, Rising s (s.gatherBit b) := by
    intro b
    unfold State.gatherBit
    dsimp only
    split
    · exact rising_of_same
    split
    · exact rising_discardTo s _
    · exact rising_of_same
  have hzero : Rising s s.idleZero := rising_of_same
  cases c <;> cases hrx : s.port.rx <;> simp only [State.plainCell, hrx]
  case one.loss => exact rising_idleOne s
  case one.idle => exact rising_idleOne s
  case one.frame => exact hgather _
  case zero.frame => exact hgather _
  case violation.frame =>
    split
    · exact hzero
    · exact rising_discardTo s _
  case empty.frame => exact rising_discardTo s _
  all_goals exact hzero

theorem rising_receiveCell (s : State) (c : CellClass) : Rising s (s.receiveCell c) := by
  unfold State.receiveCell State.enterLoss
  dsimp only
  split
  · exact (Rising.after (by simp) (rising_discardTo _ _)).setPort _
  split
  · exact .after (by simp) (rising_pairCell _ c)
  · exact .after (by simp) (rising_plainCell _ c)

theorem rising_receivePair (s : State) (c : CellClass) : Rising s (s.receivePair c) := by
  unfold State.receivePair
  split
  · exact rising_receiveCell s c
  · exact ((rising_receiveCell s _).setPort _).trans (rising_receiveCell _ c)

/-- What listens behind section 8.9 counts only as what it does. -/
theorem rising_hears {f : State → State} {s : State} (h : Rising s (f s)) : Rising s (s.hears f) := by
  unfold State.hears
  split
  · exact h
  · exact .refl s

/-- A command that may do one thing. -/
theorem rising_ite {p : Prop} [Decidable p] {s t : State} (h : Rising s t) : Rising s (if p then t else s) := by
  split
  · exact h
  · exact .refl s

/-- R187: no effect but a reset's lowers a counter. -/
theorem rising_effect (c : Instr) (s : State) (hpower : ∀ dt, c ≠ .powerOnReset dt) (hexternal : ∀ dt, c ≠ .externalReset dt) :
    Rising s (effect c s) := by
  cases c <;> simp only [effect]
  case powerOnReset dt => exact absurd rfl (hpower dt)
  case externalReset dt => exact absurd rfl (hexternal dt)
  case configReadComplete => exact rising_completeRead _ _ s
  case rawPulse => exact beltKeeps_rising.rawPulse s _
  case slatMark => exact beltKeeps_rising.slatMark s _
  case fallbackStep => exact beltKeeps_rising.fallbackStep s _
  case coilWindowClose => exact rising_ite (itemWork_rising.closeWindow s _)
  case recoveryTimerExpiry =>
    unfold State.recoveryEnds
    dsimp only
    refine rising_ite ?_
    split
    · split
      · exact rising_of_same
      · exact .after (by simp) (itemWork_rising.enterFault _ _)
    · exact rising_of_same
  case removal => exact itemWork_rising.removal s _
  case fullSensorRise => exact itemWork_rising.fullSensorRise s _
  case openMark => exact rising_hears (rising_receivePair s _)
  case abortMark => exact rising_hears (rising_receivePair s _)
  case closeMark => exact rising_hears (rising_receivePair s _)
  case cellReceived => exact rising_hears (rising_receiveCell s _)
  case lineError kind =>
    refine rising_hears ?_
    cases kind
    · exact rising_receivePair s _
    · exact rising_ite (rising_receiveCell s _)
    · exact rising_ite (rising_receiveCell s _)
  case frameTooLong => exact rising_hears (rising_ite (rising_receiveCell s _))
  case lossEntry cause =>
    refine rising_hears ?_
    cases cause
    · exact rising_ite (rising_receiveCell s _)
    · exact rising_ite ((rising_discardTo s _).setPort _)
  case lossReturn => exact rising_hears (rising_ite (rising_receiveCell s _))
  case severedRejoin => exact rising_hears (rising_ite (rising_receiveCell s _))
  case joiningRollRetry => exact rising_ite (.after (by simp) (rising_enqueueOwn _ _))
  case statusPeriodTimer => exact rising_ite (.after (by simp) (rising_enqueueOwn _ _))
  case serviceKeyPress => exact rising_ite (.after (by simp) (rising_press _))
  case safetyChainOpening =>
    unfold State.chainOpens
    dsimp only
    split
    · exact .after (by simp) (rising_enterSafe _)
    · exact .after (by simp) (rising_enterSafe _)
    · exact rising_of_same
    · exact rising_of_same
    · exact rising_of_same
  all_goals exact rising_of_same

/-- Settles O58: what no effect and no end of an event lowers, no command lowers; a reset's counters are those of reset. -/
theorem countersOnlyRise : Obligations.CountersOnlyRise := by
  intro c s t k hexec
  rw [exec_eq_after] at hexec
  obtain rfl := Host.Outcome.next.inj hexec
  refine ⟨fun hpower hexternal => ?_, ?_⟩
  · exact Nat.le_trans (rising_effect c (s.elapse (elapsedBy c)) hpower hexternal k) (finish_counter_le _ k)
  · rintro ⟨dt, rfl | rfl⟩ <;> cases k <;> rfl

end Sys2Proof.Machine

/-! What a command answers, part by part: the effect's own changes, and what the end of the event adds (R111, R190). -/

namespace Sys2Proof.Machine

/-- A command answers its effect's state with the event ended. -/
theorem exec_answers {c : Instr} {s u : State} (h : effect c (s.elapse (elapsedBy c)) = u) : exec c s = .next u.finish := by
  rw [exec_eq_after, State.after, h]

/-- The end of an event changes the lamp alone in the Mode Controller. -/
@[simp] theorem finish_noLamp (s : State) : s.finish.ctl.noLamp = s.ctl.noLamp := by
  unfold State.finish State.showLamp
  split
  · rw [answerAsked_ctl]
  · simp only [setCtl_ctl, answerAsked_ctl]
    rfl

/-- An event that asks for no BINSTATE ends with its blocks as they are. -/
theorem finish_unasked {s : State} (h : s.bins.asked = false) :
    s.finish.bins = s.bins ∧ s.finish.port = s.port ∧ s.finish.ltu = s.ltu ∧ s.finish.counters = s.counters := by
  rw [finish_quiet s h]
  simp

/-- R111: an event that asks for a BINSTATE while the station runs restarts the period timer at 500 ms. -/
theorem finish_period {s : State} (hasked : s.bins.asked = true) (hrun : s.running = true) :
    s.finish.bins.periodTimer = some 500000000 := by
  simp only [State.finish, State.answerAsked, hasked, hrun, if_true, showLamp_frame, requestBinstate_bins]
  rfl

@[simp] theorem finish_running (s : State) : s.finish.running = s.running := by simp [State.running]

/-- `SameBut` part by part. -/
theorem sameBut_iff (ch : List Part) (s t : State) : SameBut ch s t ↔
    (.cfg ∉ ch → t.cfg = s.cfg) ∧ (.retention ∉ ch → t.retention = s.retention) ∧ (.pos ∉ ch → t.pos = s.pos) ∧
    (.gate ∉ ch → t.gate = s.gate) ∧ (.classifier ∉ ch → t.classifier = s.classifier) ∧ (.trk ∉ ch → t.trk = s.trk) ∧
    (.bins ∉ ch → t.bins = s.bins) ∧ (.ej ∉ ch → t.ej = s.ej) ∧ (.port ∉ ch → t.port = s.port) ∧
    (.ltu ∉ ch → t.ltu = s.ltu) ∧ (.mode ∉ ch → t.ctl.noLamp = s.ctl.noLamp) ∧ (.pins ∉ ch → t.pins = s.pins) ∧
    (.counters ∉ ch → t.counters = s.counters) ∧ (.pending ∉ ch → t.pending = s.pending) := by
  constructor
  · intro h
    exact ⟨h .cfg, h .retention, h .pos, h .gate, h .classifier, h .trk, h .bins, h .ej, h .port, h .ltu, h .mode, h .pins,
      h .counters, h .pending⟩
  · rintro ⟨hcfg, hret, hpos, hgate, hcls, htrk, hbins, hej, hport, hltu, hmode, hpins, hcount, hpend⟩ p
    cases p <;> assumption

theorem SameBut.refl (ch : List Part) (s : State) : SameBut ch s s := by simp [sameBut_iff]

theorem SameBut.trans {ch : List Part} {s t u : State} (h1 : SameBut ch s t) (h2 : SameBut ch t u) : SameBut ch s u := by
  intro p hp
  have h1 := h1 p hp
  have h2 := h2 p hp
  cases p <;> exact Eq.trans h2 h1

theorem SameBut.mono {ch ch' : List Part} {s t : State} (h : SameBut ch s t) (hsub : ch ⊆ ch') : SameBut ch' s t :=
  fun p hp => h p fun hin => hp (hsub hin)

/-- The end of a quiet event touches no part. -/
theorem SameBut.finish_quiet {ch : List Part} {s u : State} (h : SameBut ch s u) (hasked : u.bins.asked = false) :
    SameBut ch s u.finish := by
  obtain ⟨hbins, hport, hltu, hcount⟩ := finish_unasked hasked
  rw [sameBut_iff] at h ⊢
  simpa [hbins, hport, hltu, hcount] using h

/-- The end of any event touches what a BINSTATE touches. -/
theorem SameBut.finish {ch : List Part} {s u : State} (h : SameBut ch s u) (hsub : binstateParts ⊆ ch) :
    SameBut ch s u.finish := by
  refine SameBut.trans (t := u) h (SameBut.mono ?_ hsub)
  simp [sameBut_iff, binstateParts]

theorem sameBut_setPos (s : State) (p : PositionUnit) : SameBut [.pos] s (s.setPos p) := by simp [sameBut_iff]

theorem sameBut_setCtl (s : State) (m : ModeController) : SameBut [.mode] s (s.setCtl m) := by simp [sameBut_iff]

/-- A timer that runs out within the time has run out after it. -/
theorem RunsOut.due {t : Timer} {dt : Nat} (h : RunsOut t dt) : Timer.due (Timer.elapse dt t) = true := by
  obtain ⟨r, rfl, hr⟩ := h
  exact due_elapse r dt hr

/-- A change of the request, and of nothing else in sight: the event is quiet as it was. -/
theorem elapse_asked_of {s : State} (dt : Nat) (h : s.bins.asked = false) : (s.elapse dt).bins.asked = false := by
  rwa [(elapse_bins s dt).2.2.1]

/-! ### A BINSTATE once asked for stays asked for within the event -/

/-- A request of `s` is a request of `t`. -/
def AskKept (s t : State) : Prop := s.bins.asked = true → t.bins.asked = true

theorem askKept_of_bins {s t : State} (h : t.bins = s.bins := by simp) : AskKept s t := by
  intro hs
  rwa [h]

theorem itemWork_askKept : ItemWork AskKept where
  refl _ := id
  trans h1 h2 h := h2 (h1 h)
  setGate _ _ := askKept_of_bins
  setTrk _ _ := askKept_of_bins
  setEj _ _ := askKept_of_bins
  setPins _ _ := askKept_of_bins
  setRetention _ _ := askKept_of_bins
  setBin s b r h := by rw [setBin_asked, h, Bool.true_or]
  takeSensor s b k l h := by cases k <;> exact h
  setSlot _ _ _ h := h
  setBetween _ _ h := h
  count _ _ := askKept_of_bins
  enqueueOwn _ _ := askKept_of_bins

end Sys2Proof.Machine

/-! The belt's commands: the seam report, the belt-run line, the watchdog, and the raw pulse within a step (R1, R3, R11, R14,
R17). -/

namespace Sys2Proof.Machine

/-- Settles O10: both commands change the Position Unit, the second the pin as well, and ask for nothing. -/
theorem seamReportAndBeltRunLine : Obligations.SeamReportAndBeltRunLine := by
  refine ⟨fun s dt hrun hquiet => ?seam, fun s dt on hrun hchange hquiet => ?beltRun⟩
  case seam =>
    have heff : effect (.seamReport dt) (s.elapse dt) =
        (s.elapse dt).setPos { (s.elapse dt).pos with seamFlag := true } := by
      simp [effect, State.seamReport, hrun]
    exact ⟨_, exec_answers heff, by simp, (sameBut_setPos _ _).finish_quiet (elapse_asked_of dt hquiet)⟩
  case beltRun =>
    have heff : effect (.beltRunChange dt on) (s.elapse dt) =
        ((s.elapse dt).setPins { s.pins with beltRun := on }).setPos { (s.elapse dt).pos with
          watchdog := if on then some (s.cfg.encoderMs * 1000000) else none } := by
      have hpins : (s.elapse dt).pins = s.pins := rfl
      have hrun' : ((s.elapse dt).setPins { s.pins with beltRun := on }).running = true := hrun
      simp only [effect, State.beltRun, hpins, hchange, if_false, hrun', if_true, setPins_pos]
      rfl
    refine ⟨_, exec_answers heff, by simp, by simp, SameBut.finish_quiet ?_ (elapse_asked_of dt hquiet)⟩
    simp [sameBut_iff]

/-! ### The watchdog -/

/-- R14: at a due watchdog the expiry happens. -/
theorem effect_watchdog {s : State} {dt : Nat} (hrun : s.running = true) (hbelt : s.pins.beltRun = true)
    (hout : RunsOut s.pos.watchdog dt) :
    effect (.encoderWatchdogExpiry dt) (s.elapse dt) = (s.elapse dt).watchdogExpiry := by
  have hdue : Timer.due (s.elapse dt).pos.watchdog = true := by
    rw [(elapse_pos_timers s dt hrun hbelt).1]
    exact hout.due
  simp [effect, State.watchdogEnds, hrun, hbelt, hdue]

/-- R14: the Position Unit at the entry to FALLBACK. -/
theorem enterFallback_fields (p : PositionUnit) :
    p.enterFallback.cond = .fallback ∧ p.enterFallback.overrun = 0 ∧ p.enterFallback.acc = 0 ∧
    p.enterFallback.missed = 0 ∧ p.enterFallback.good = 0 ∧ p.enterFallback.trimSum = 0 ∧ p.enterFallback.trimCount = 0 ∧
    p.enterFallback.watchdog = p.watchdog ∧ p.enterFallback.step = p.step ∧ p.enterFallback.slot = p.slot ∧
    p.enterFallback.stepTimer = if p.step < 63 then p.period.map (fun t => t / 64 * 1000) else none := by
  unfold PositionUnit.enterFallback PositionUnit.trimEmpty
  simp [PositionUnit.restartInterval]

/-- R20: an announced change of the condition reaches the peer table and the BINSTATE alone. -/
theorem sameBut_announce (s : State) (p : PositionUnit) (c : Condition) :
    SameBut (.pos :: binstateParts) s ((s.setPos p).announce c) := by
  simp [sameBut_iff, binstateParts]

/-- R20, R111: a changed tracking or degraded flag asks for a BINSTATE. -/
theorem announce_asked {s : State} {old : Condition}
    (h : old.tracking ≠ s.pos.cond.tracking ∨ old.degraded ≠ s.pos.cond.degraded) : (s.announce old).bins.asked = true := by
  unfold State.announce
  dsimp only
  rw [if_neg]
  · rfl
  · rintro ⟨ht, hd⟩
    exact h.elim (fun hx => hx ht) (fun hx => hx hd)

/-- Settles O11: by the condition. -/
theorem watchdogExpiryEntersFallback : Obligations.WatchdogExpiryEntersFallback := by
  intro s dt hrun hbelt hout hquiet
  have hquiet' := elapse_asked_of dt hquiet
  have heff := effect_watchdog hrun hbelt hout
  have hsub : binstateParts ⊆ .pos :: binstateParts := List.subset_cons_self _ _
  cases hcond : s.pos.cond with
  | unsynced =>
    have hexp : (s.elapse dt).watchdogExpiry = (s.elapse dt).setPos { (s.elapse dt).pos with watchdog := none } := by
      simp [State.watchdogExpiry, hcond]
    rw [hexp] at heff
    refine ⟨_, exec_answers heff, by simp, by simp, by simp, ?_, by simp, by simp, by simp, by simp⟩
    exact ((sameBut_setPos _ _).mono (by simp)).finish hsub
  | fallback =>
    have hexp : (s.elapse dt).watchdogExpiry =
        (s.elapse dt).setPos ({ (s.elapse dt).pos with watchdog := none } : PositionUnit).abandonQualification := by
      simp [State.watchdogExpiry, hcond]
    have habandon : ∀ p : PositionUnit, p.abandonQualification.watchdog = p.watchdog ∧ p.abandonQualification.step = p.step ∧
        p.abandonQualification.slot = p.slot ∧ p.abandonQualification.cond = p.cond ∧ p.abandonQualification.qual = none := by
      intro p
      unfold PositionUnit.abandonQualification
      cases hq : p.qual <;> simp [hq]
    rw [hexp] at heff
    refine ⟨_, exec_answers heff, by simp [habandon], by simp [habandon], by simp [habandon], ?_, by simp, by simp, by simp,
      by simp [habandon, hcond]⟩
    exact ((sameBut_setPos _ _).mono (by simp)).finish hsub
  | normal =>
    have hexp : (s.elapse dt).watchdogExpiry = ((s.elapse dt).setPos
        ({ (s.elapse dt).pos with watchdog := none } : PositionUnit).enterFallback).announce .normal := by
      simp [State.watchdogExpiry, hcond]
    rw [hexp] at heff
    refine ⟨_, exec_answers heff, by simp [enterFallback_fields], by simp [enterFallback_fields],
      by simp [enterFallback_fields], (sameBut_announce _ _ _).finish hsub, by simp [enterFallback_fields],
      fun _ => finish_period (announce_asked ?_) ?_, by simp, by simp⟩
    · exact .inr (by simp [enterFallback_fields, Condition.degraded])
    · simpa [State.running] using hrun
  | freeRun =>
    have hexp : (s.elapse dt).watchdogExpiry = ((s.elapse dt).setPos
        ({ (s.elapse dt).pos with watchdog := none } : PositionUnit).enterFallback).announce .freeRun := by
      simp [State.watchdogExpiry, hcond]
    rw [hexp] at heff
    exact ⟨_, exec_answers heff, by simp [enterFallback_fields], by simp [enterFallback_fields],
      by simp [enterFallback_fields], (sameBut_announce _ _ _).finish hsub, by simp [enterFallback_fields],
      by simp, by simp, by simp⟩

/-! ### Step lengths -/

/-- R1: the number of the step in progress outside FALLBACK. -/
theorem stepNumber_of_ne_fallback {p : PositionUnit} (h : p.cond ≠ .fallback) :
    p.stepNumber = if p.overrun = 0 then some p.step else none := by
  unfold PositionUnit.stepNumber
  split
  · next hcond _ => exact absurd hcond h
  · rfl

/-- R1: M of the first k steps are one pulse longer. -/
theorem sum_stepLengths (n m k : Nat) :
    ((List.range k).map (fun j => if j < m then n + 1 else n)).sum = k * n + min m k := by
  induction k with
  | zero => simp
  | succ k ih =>
    rw [List.range_succ, List.map_append, List.sum_append, ih, List.map_singleton, List.sum_singleton, Nat.succ_mul]
    split <;> omega

/-- Settles O12. -/
theorem stepLengthsOfSlot : Obligations.StepLengthsOfSlot := by
  have hlength : ∀ p : PositionUnit, p.cond ≠ .fallback → p.overrun = 0 →
      p.stepLength = if p.step < p.cur.m then p.cur.n + 1 else p.cur.n := by
    intro p hcond hover
    rw [PositionUnit.stepLength, stepNumber_of_ne_fallback hcond, if_pos hover]
  refine ⟨hlength, fun p hcond hover => ?overrun, fun p m hm hcur hcond hover => ?slot, fun p c hcond hqual => ?qual⟩
  case overrun => rw [PositionUnit.stepLength, stepNumber_of_ne_fallback hcond, if_neg hover]
  case slot =>
    have hsteps : (fun j => ({ p with step := j } : PositionUnit).stepLength) =
        fun j => if j < m then p.cur.n + 1 else p.cur.n := by
      funext j
      rw [hlength { p with step := j } hcond hover, hcur]
    rw [hsteps, sum_stepLengths]
    omega
  case qual =>
    have hnumber : p.stepNumber = if c < 64 then some c else none := by simp [PositionUnit.stepNumber, hcond, hqual]
    refine ⟨fun hc => ?_, fun hc => ?_⟩
    · rw [PositionUnit.stepLength, hnumber, if_pos hc]
    · rw [PositionUnit.stepLength, hnumber, if_neg (by omega)]

/-! ### The raw pulse -/

/-- R1, R14: the Position Unit with a pulse counted and the accumulator at `acc`. -/
def State.counted (s : State) (acc : Nat) : PositionUnit := { s.pos.countPulse s.watchdogStart with acc := acc }

/-- R1: the pulse is short of the step's length. -/
theorem rawPulse_within {s : State} (smp : Samples) (hrun : s.running = true) (h : s.pos.acc + 1 < s.pos.stepLength) :
    State.rawPulse smp s = s.setPos (s.counted (s.pos.acc + 1)) := by
  have hacc : (s.pos.countPulse s.watchdogStart).acc = s.pos.acc + 1 := rfl
  simp only [State.rawPulse, hrun, if_true, State.pulse, countPulse_stepLength, hacc, if_neg (Nat.not_le.mpr h)]
  rfl

/-- R1, R3: the pulse completes the step. -/
theorem rawPulse_completes {s : State} (smp : Samples) (hrun : s.running = true) (h : s.pos.stepLength ≤ s.pos.acc + 1) :
    State.rawPulse smp s = (s.setPos (s.counted 0)).stepComplete smp := by
  have hacc : (s.pos.countPulse s.watchdogStart).acc = s.pos.acc + 1 := rfl
  simp only [State.rawPulse, hrun, if_true, State.pulse, countPulse_stepLength, hacc, if_pos h]
  rfl

theorem counted_fields (s : State) (acc : Nat) :
    (s.counted acc).acc = acc ∧ (s.counted acc).slotPulses = min 65535 (s.pos.slotPulses + 1) ∧
    (s.counted acc).watchdog = s.watchdogStart ∧ (s.counted acc).step = s.pos.step ∧ (s.counted acc).slot = s.pos.slot ∧
    (s.counted acc).overrun = s.pos.overrun ∧ (s.counted acc).cond = s.pos.cond ∧ (s.counted acc).qual = s.pos.qual ∧
    (s.counted acc).seamFlag = s.pos.seamFlag ∧ (s.counted acc).pend = s.pos.pend ∧ (s.counted acc).cur = s.pos.cur ∧
    (s.counted acc).missed = s.pos.missed ∧ (s.counted acc).slipFlag = s.pos.slipFlag ∧
    (s.counted acc).sinceBoundary = s.pos.sinceBoundary :=
  ⟨rfl, rfl, rfl, rfl, rfl, rfl, rfl, rfl, rfl, rfl, rfl, rfl, rfl, rfl⟩

theorem watchdogStart_eq (s : State) :
    s.watchdogStart = if s.pins.beltRun then some (s.cfg.encoderMs * 1000000) else none := rfl

/-- Settles O13. -/
theorem pulseWithinStepIsCounted : Obligations.PulseWithinStepIsCounted := by
  intro s dt smp hrun hquiet hshort
  have heff : effect (.rawPulse dt smp) (s.elapse dt) = (s.elapse dt).setPos ((s.elapse dt).counted (s.pos.acc + 1)) := by
    rw [effect, rawPulse_within smp (by simpa using hrun) (by simpa using hshort)]
    simp
  refine ⟨_, exec_answers heff, ?_, (sameBut_setPos _ _).finish_quiet (elapse_asked_of dt hquiet)⟩
  simp only [finish_frame, setPos_pos, State.counted, PositionUnit.countPulse, elapse_pos, watchdogStart_eq]
  rfl

/-- R4, R15: a step event touches no part outside `stepParts`. -/
theorem sameBut_stepEvent (s : State) (smp : Samples) (ev : StepEvent) : SameBut stepParts s (s.stepEvent smp ev) := by
  simp [sameBut_iff, stepParts]

theorem sameBut_stepEvent_setPos (s : State) (p : PositionUnit) (smp : Samples) (ev : StepEvent) :
    SameBut stepParts s (((s.setPos p).stepEvent smp ev).finish) :=
  SameBut.finish (((sameBut_setPos s p).mono (by simp [stepParts])).trans (sameBut_stepEvent _ smp ev))
    (by simp [binstateParts, stepParts])

/-- Settles O14: a completed step moves the gate, counts toward a qualification, or is an overrun step. -/
theorem pulseCompletesStep : Obligations.PulseCompletesStep := by
  refine ⟨fun s dt smp hrun hquiet hlength => ?_, fun s smp ev => rfl⟩
  have hquiet' := elapse_asked_of dt hquiet
  have heff : effect (.rawPulse dt smp) (s.elapse dt) =
      ((s.elapse dt).setPos ((s.elapse dt).counted 0)).stepComplete smp :=
    rawPulse_completes smp (by simpa using hrun) (by simpa using hlength)
  refine ⟨fun hcond hroom => ?step, fun hcond => ?qualifying, fun hcond hend hguard => ?overrun⟩
  case step =>
    have hstep : ((s.elapse dt).setPos ((s.elapse dt).counted 0)).stepComplete smp =
        ((s.elapse dt).setPos { (s.elapse dt).counted 0 with step := s.pos.step + 1 }).stepEvent smp
          ⟨s.pos.gatePos + 1, some 1, false⟩ := by
      have hgate : (64 * s.pos.slot + (s.pos.step + 1)) = s.pos.gatePos + 1 := rfl
      simp only [State.stepComplete, setPos_pos, counted_fields, elapse_pos, hcond, hroom, if_true, if_false,
        State.stepOn, PositionUnit.gatePos]
      rfl
    rw [hstep] at heff
    refine ⟨_, exec_answers heff, ?_, ?_, ?_, ?_, ?_, ?_, sameBut_stepEvent_setPos _ _ _ _,
      (s.elapse dt).setPos { (s.elapse dt).counted 0 with step := s.pos.step + 1 }, ?_, sameBut_setPos _ _, rfl⟩
    all_goals simp [counted_fields, watchdogStart_eq, PositionUnit.gatePos]
    all_goals rfl
  case qualifying =>
    have hstep : ((s.elapse dt).setPos ((s.elapse dt).counted 0)).stepComplete smp =
        (s.elapse dt).setPos { (s.elapse dt).counted 0 with qual := s.pos.qual.map (fun c => min 255 (c + 1)) } := by
      simp only [State.stepComplete, setPos_pos, counted_fields, elapse_pos, hcond, if_true]
      rfl
    rw [hstep] at heff
    refine ⟨_, exec_answers heff, ?_, ?_, ?_, ?_, ?_, (sameBut_setPos _ _).finish_quiet hquiet'⟩
    all_goals simp [counted_fields, watchdogStart_eq]
  case overrun =>
    have hstep : ((s.elapse dt).setPos ((s.elapse dt).counted 0)).stepComplete smp =
        (s.elapse dt).setPos { (s.elapse dt).counted 0 with overrun := s.pos.overrun + 1 } := by
      have hfall : s.pos.cond ≠ .fallback := by obtain hc | hc := hcond <;> simp [hc]
      have hfree : s.pos.cond ≠ .freeRun := by obtain hc | hc := hcond <;> simp [hc]
      have hcfg : (s.elapse dt).cfg = s.cfg := rfl
      simp only [State.stepComplete, setPos_pos, setPos_cfg, hcfg, counted_fields, elapse_pos, hfall, hfree, if_false,
        Nat.not_lt.mpr hend, Nat.not_le.mpr hguard]
      rfl
    rw [hstep] at heff
    refine ⟨_, exec_answers heff, ?_, ?_, ?_, ?_, ?_, (sameBut_setPos _ _).finish_quiet hquiet'⟩
    all_goals simp [counted_fields, watchdogStart_eq]

end Sys2Proof.Machine

/-! Slot boundaries: the seam flag's outcome, the step event, the slot period and the announcement, each said once; then the
commands that make a boundary (R2, R6, R7, R9, R11 to R13, R15, R16). -/

namespace Sys2Proof.Machine

/-! ### The seam flag (R11, R12) -/

theorem seam_of_clear {p : PositionUnit} (n : Nat) (h : p.seamFlag = false) : p.seam n = .none := by
  simp [PositionUnit.seam, h]

theorem seam_of_unsynced {p : PositionUnit} (n : Nat) (h : p.seamFlag = true) (hcond : p.cond = .unsynced) :
    p.seam n = .sync := by
  simp [PositionUnit.seam, h, hcond]

theorem seam_of_agreeing {p : PositionUnit} {n : Nat} (h : p.seamFlag = true) (hcond : p.cond ≠ .unsynced)
    (hslot : p.slot + 1 = n) : p.seam n = .agrees := by
  simp [PositionUnit.seam, h, hcond, hslot]

theorem seam_of_slipping {p : PositionUnit} {n : Nat} (h : p.seamFlag = true) (hcond : p.cond ≠ .unsynced)
    (hslot : p.slot + 1 ≠ n) : p.seam n = .slip := by
  simp [PositionUnit.seam, h, hcond, hslot]

theorem seam_ne_sync {p : PositionUnit} (n : Nat) (hcond : p.cond ≠ .unsynced) : p.seam n ≠ .sync := by
  unfold PositionUnit.seam
  rw [if_neg hcond]
  split
  · split <;> simp
  · simp

/-- R11: with the flag set the slot count comes out at 0, forced or by wrapping. -/
theorem atBoundary_slot_of_seamFlag {p : PositionUnit} {c : Settings} (w : Timer) (k : BoundaryKind)
    (h : p.seamFlag = true) : (p.atBoundary c w k).slot = 0 := by
  simp only [atBoundary_fields]
  by_cases hcond : p.cond = .unsynced
  · simp [seam_of_unsynced c.slots h hcond, SeamOutcome.discontinuous]
  by_cases hslot : p.slot + 1 = c.slots
  · simp [seam_of_agreeing h hcond hslot, SeamOutcome.discontinuous, hslot]
  · simp [seam_of_slipping h hcond hslot, SeamOutcome.discontinuous]

theorem atBoundary_slot_of_clear {p : PositionUnit} {c : Settings} (w : Timer) (k : BoundaryKind)
    (h : p.seamFlag = false) : (p.atBoundary c w k).slot = (p.slot + 1) % c.slots := by
  simp [seam_of_clear c.slots h, SeamOutcome.discontinuous]

/-! ### The step event (R4) -/

/-- The event is issued at the gate position the boundary gives. -/
theorem boundaryEvent_pos (p : PositionUnit) (c : Settings) (w : Timer) (k : BoundaryKind) :
    (p.boundaryEvent c k).pos = (p.atBoundary c w k).gatePos := by
  simp [PositionUnit.boundaryEvent, PositionUnit.gatePos]

/-- With no seam outcome that forces the slot, the event advances over the rest of the slot and the steps carried. -/
theorem boundaryEvent_advances {p : PositionUnit} {c : Settings} (k : BoundaryKind)
    (h : p.seamFlag = false ∨ (p.cond ≠ .unsynced ∧ p.slot + 1 = c.slots)) :
    (p.boundaryEvent c k).adv = some (64 - p.step + k.carry c.guard) ∧ (p.boundaryEvent c k).seamSlip = false := by
  have hseam : p.seam c.slots = .none ∨ p.seam c.slots = .agrees := by
    cases hflag : p.seamFlag with
    | false => exact .inl (seam_of_clear _ hflag)
    | true =>
      obtain ⟨hcond, hslot⟩ := h.resolve_left (by simp [hflag])
      exact .inr (seam_of_agreeing hflag hcond hslot)
  obtain hseam | hseam := hseam <;> simp [PositionUnit.boundaryEvent, hseam, SeamOutcome.discontinuous]

theorem boundaryEvent_synchronises {p : PositionUnit} {c : Settings} (k : BoundaryKind) (h : p.seamFlag = true)
    (hcond : p.cond = .unsynced) : (p.boundaryEvent c k).adv = none ∧ (p.boundaryEvent c k).seamSlip = false := by
  simp [PositionUnit.boundaryEvent, seam_of_unsynced c.slots h hcond, SeamOutcome.discontinuous]

theorem boundaryEvent_slips {p : PositionUnit} {c : Settings} (k : BoundaryKind) (h : p.seamFlag = true)
    (hcond : p.cond ≠ .unsynced) (hslot : p.slot + 1 ≠ c.slots) :
    (p.boundaryEvent c k).adv = none ∧ (p.boundaryEvent c k).seamSlip = true := by
  simp [PositionUnit.boundaryEvent, seam_of_slipping h hcond hslot, SeamOutcome.discontinuous]

/-! ### The slot period (R13) -/

theorem atBoundary_period (p : PositionUnit) (c : Settings) (w : Timer) (k : BoundaryKind) :
    (p.atBoundary c w k).period = p.measure.period := by simp

/-- The time since the last boundary, held as it is, gives the held period. -/
theorem measured_period {s : State} {dt since : Nat} (hrun : s.running = true) (hsince : s.pos.sinceBoundary = some since)
    {p : PositionUnit} (hp : p.sinceBoundary = (s.elapse dt).pos.sinceBoundary) :
    p.measure.period = some (min ((since + dt) / 1000) 67108863) := by
  rw [elapse_since s dt hrun, hsince] at hp
  simp only [PositionUnit.measure, hp, Option.map_some, Config.periodMax, Option.some.injEq]
  omega

/-! ### The announcement (R20, R111) -/

/-- A boundary that changes a flag of the condition restarts the BINSTATE period. -/
theorem boundaryWithEvent_period {u : State} (smp : Samples) (k : BoundaryKind) (hrun : u.running = true)
    (h : u.pos.cond.tracking ≠ (u.pos.atBoundary u.cfg u.watchdogStart k).cond.tracking ∨
      u.pos.cond.degraded ≠ (u.pos.atBoundary u.cfg u.watchdogStart k).cond.degraded) :
    (u.boundaryWithEvent smp k).finish.bins.periodTimer = some 500000000 := by
  refine finish_period (itemWork_askKept.stepEvent _ smp _ (announce_asked ?_)) ?_
  · simpa using h
  · simpa [State.running] using hrun

/-- Conditions that differ, one of them undegraded, differ in a flag. -/
theorem flags_differ {c d : Condition} (h : d ≠ c) (hundegraded : c.degraded = false ∨ d.degraded = false) :
    c.tracking ≠ d.tracking ∨ c.degraded ≠ d.degraded := by
  cases c <;> cases d <;> simp_all [Condition.tracking, Condition.degraded]

theorem sameBut_boundaryWithEvent (s : State) (p : PositionUnit) (smp : Samples) (k : BoundaryKind) :
    SameBut stepParts s ((s.setPos p).boundaryWithEvent smp k).finish := by
  refine SameBut.finish (u := (s.setPos p).boundaryWithEvent smp k) ?_ (by simp [binstateParts, stepParts])
  simp [sameBut_iff, stepParts]

/-- A boundary that is not a marked one restarts the trim, and makes no pair. -/
theorem trim_of_not_marked (p : PositionUnit) {k : BoundaryKind} (o : SeamOutcome) (h : k ≠ .marked ∨ p.cond ≠ .normal) :
    (p.trim k o).1.trimSum = 0 ∧ (p.trim k o).1.trimCount = 0 ∧ (p.trim k o).1.trimOpen = false ∧ (p.trim k o).2 = none := by
  have hcounts : (k == .marked && p.cond == .normal) = false := by
    obtain h | h := h <;> simp [h]
  simp [PositionUnit.trim, hcounts, PositionUnit.trimEmpty]

/-! ### The boundary of a missed mark, and that of FREE-RUN -/

/-- R7, R9: the step that completes at step-in-slot 63 of a slot, outside FALLBACK. -/
theorem rawPulse_ends_slot {s : State} (smp : Samples) (hrun : s.running = true) (h : s.pos.stepLength ≤ s.pos.acc + 1)
    (hend : 63 ≤ s.pos.step) :
    (s.pos.cond = .freeRun → State.rawPulse smp s = (s.setPos (s.counted 0)).boundaryWithEvent smp .free) ∧
    (s.pos.cond = .normal ∨ s.pos.cond = .unsynced → s.cfg.guard ≤ s.pos.overrun + 1 →
      State.rawPulse smp s =
        (s.setPos { s.counted 0 with overrun := s.pos.overrun + 1 }).boundaryWithEvent smp .missed) := by
  rw [rawPulse_completes smp hrun h]
  refine ⟨fun hcond => ?_, fun hcond hguard => ?_⟩
  · simp [State.stepComplete, counted_fields, hcond, Nat.not_lt.mpr hend]
  · have hfall : s.pos.cond ≠ .fallback := by obtain hc | hc := hcond <;> simp [hc]
    have hfree : s.pos.cond ≠ .freeRun := by obtain hc | hc := hcond <;> simp [hc]
    simp only [State.stepComplete, setPos_pos, setPos_cfg, counted_fields, hfall, hfree, if_false, Nat.not_lt.mpr hend,
      hguard, if_true]
    rfl

/-- Settles O15: the overrun's boundary, and FREE-RUN's. -/
theorem missedMarkAndFreeRunBoundaries : Obligations.MissedMarkAndFreeRunBoundaries := by
  refine ⟨fun s dt smp hrun hcond hlength hend hguard => ?missed, fun s dt smp hrun hcond hlength hend => ?free⟩
  case missed =>
    have hfall : s.pos.cond.degraded = false := by obtain hc | hc := hcond <;> simp [hc, Condition.degraded]
    have hcfg : (s.elapse dt).cfg = s.cfg := rfl
    have hpulse := (rawPulse_ends_slot smp (s := s.elapse dt) (by simpa using hrun) (by simpa using hlength)
      (by simpa using hend)).2 (by simpa using hcond) (by simpa [hcfg] using hguard)
    generalize hp : ({ (s.elapse dt).counted 0 with overrun := (s.elapse dt).pos.overrun + 1 } : PositionUnit) = p at hpulse
    have hsame : p.step = s.pos.step ∧ p.slot = s.pos.slot ∧ p.cond = s.pos.cond ∧ p.seamFlag = s.pos.seamFlag ∧
        p.pend = s.pos.pend ∧ p.cur = s.pos.cur ∧ p.missed = s.pos.missed ∧
        p.sinceBoundary = (s.elapse dt).pos.sinceBoundary := by
      subst hp
      simp [counted_fields]
    obtain ⟨hstep, hslot, hpcond, hseam, hpend, hcur, hmissed, hsince⟩ := hsame
    have hpos : ((s.elapse dt).setPos p).pos = p := rfl
    have hpcfg : ((s.elapse dt).setPos p).cfg = s.cfg := rfl
    obtain ⟨htrimSum, htrimCount, -, hmade⟩ := trim_of_not_marked (p.pitch .missed) (k := .missed) (p.seam s.cfg.slots)
      (.inl (by decide))
    refine ⟨_, exec_answers (c := .rawPulse dt smp) hpulse, ?_⟩
    simp only [finish_frame, boundaryWithEvent_pos, hpos, hpcfg]
    refine ⟨by simp [BoundaryKind.carry], by simp, by simp, by simp, by simp [PositionUnit.pitch], by simp,
      by simp only [atBoundary_fields, htrimSum], by simp only [atBoundary_fields, htrimCount], by simp [hpend, hcur],
      by simp only [atBoundary_fields, hmade], by simp,
      fun since h => ?_, fun h => ⟨?_, ?_⟩, fun h => ?_, fun h hc => ?_, fun h hc => ?_, fun hc => ?_, fun h => ?_,
      sameBut_boundaryWithEvent _ _ _ _, _, _, sameBut_setPos _ p, rfl, ?_, fun h => ?_, fun h hc => ?_, fun h hc hs => ?_⟩
    · rw [atBoundary_period, measured_period hrun h hsince]
    · rw [atBoundary_slot_of_clear _ _ (by rw [hseam, h]), hslot]
    · simp [seam_of_clear s.cfg.slots (hseam.trans h), PositionUnit.pitch, hmissed]
    · exact atBoundary_slot_of_seamFlag _ _ (by rw [hseam, h])
    · simp [seam_of_unsynced s.cfg.slots (hseam.trans h) (hpcond.trans hc), conditionAfter]
    · simp [seam_of_clear s.cfg.slots (hseam.trans h), conditionAfter, hpcond, hc]
    · have hsync := seam_ne_sync (p := p) s.cfg.slots (by simp [hpcond, hc])
      simp only [atBoundary_fields, conditionAfter, hsync, if_false, hpcond, hc, PositionUnit.pitch, hmissed]
      have hiff : 2 ≤ min 2 (s.pos.missed + 1) ↔ 1 ≤ s.pos.missed := by omega
      simp [hiff]
    · refine boundaryWithEvent_period smp .missed hrun ?_
      rw [hpos, hpcond]
      exact flags_differ h (.inl hfall)
    · exact boundaryEvent_pos p s.cfg _ _
    · obtain ⟨hadv, hslip⟩ := boundaryEvent_advances (p := p) (c := s.cfg) .missed (by
        rw [hseam, hpcond, hslot]
        exact h.imp_right fun ⟨hc, hs⟩ => ⟨by simp [hc], hs⟩)
      refine ⟨fun h63 hg => ?_, ?_, hslip⟩
      · refine hadv.trans ?_
        simp only [hstep, h63, BoundaryKind.carry, if_true, Option.some.injEq]
        omega
      · exact fun hx => Option.some_ne_none _ (hadv.symm.trans hx)
    · exact boundaryEvent_synchronises (p := p) (c := s.cfg) .missed (hseam.trans h) (hpcond.trans hc)
    · exact boundaryEvent_slips (p := p) (c := s.cfg) .missed (hseam.trans h) (by simp [hpcond, hc]) (by rwa [hslot])
  case free =>
    have hpulse := (rawPulse_ends_slot smp (s := s.elapse dt) (by simpa using hrun) (by simpa using hlength)
      (by simpa using hend)).1 (by simpa using hcond)
    generalize hp : (s.elapse dt).counted 0 = p at hpulse
    have hsame : p.step = s.pos.step ∧ p.slot = s.pos.slot ∧ p.cond = .freeRun ∧ p.seamFlag = s.pos.seamFlag ∧
        p.pend = s.pos.pend ∧ p.cur = s.pos.cur ∧ p.missed = s.pos.missed ∧ p.slipFlag = s.pos.slipFlag ∧
        p.sinceBoundary = (s.elapse dt).pos.sinceBoundary := by
      subst hp
      simp [counted_fields, hcond]
    obtain ⟨hstep, hslot, hpcond, hseam, hpend, hcur, hmissed, hslip, hsince⟩ := hsame
    have hsynced : p.cond ≠ .unsynced := by simp [hpcond]
    have hsync := seam_ne_sync (p := p) s.cfg.slots hsynced
    have hpos : ((s.elapse dt).setPos p).pos = p := rfl
    have hpcfg : ((s.elapse dt).setPos p).cfg = s.cfg := rfl
    obtain ⟨-, -, -, hmade⟩ := trim_of_not_marked (p.pitch .free) (k := .free) (p.seam s.cfg.slots) (.inl (by decide))
    refine ⟨_, exec_answers (c := .rawPulse dt smp) hpulse, ?_⟩
    simp only [finish_frame, boundaryWithEvent_pos, hpos, hpcfg]
    refine ⟨by simp [BoundaryKind.carry], by simp, by simp, by simp [conditionAfter, hsync, hpcond],
      by simp [PositionUnit.pitch, BoundaryKind.checked, hslip], by simp,
      by simp [hsync, PositionUnit.pitch, BoundaryKind.checked, hmissed], by simp [hpend, hcur],
      by simp only [atBoundary_fields, hmade], by simp,
      fun since h => ?_, fun h => ?_, fun h => ?_, sameBut_boundaryWithEvent _ _ _ _, _, _, sameBut_setPos _ p, rfl, ?_,
      fun h => ?_, fun h hs => ?_⟩
    · rw [atBoundary_period, measured_period hrun h hsince]
    · rw [atBoundary_slot_of_clear _ _ (by rw [hseam, h]), hslot]
    · exact atBoundary_slot_of_seamFlag _ _ (by rw [hseam, h])
    · exact boundaryEvent_pos p s.cfg _ _
    · obtain ⟨hadv, hnoslip⟩ := boundaryEvent_advances (p := p) (c := s.cfg) .free (by
        rw [hseam, hslot]
        exact h.imp_right fun hs => ⟨hsynced, hs⟩)
      refine ⟨fun h63 => ?_, ?_, hnoslip⟩
      · refine hadv.trans ?_
        simp [hstep, h63, BoundaryKind.carry]
      · exact fun hx => Option.some_ne_none _ (hadv.symm.trans hx)
    · exact boundaryEvent_slips (p := p) (c := s.cfg) .free (hseam.trans h) hsynced (by rwa [hslot])

end Sys2Proof.Machine

/-! Marks (R6, R8 to R10, R15, R16), the synthesised step of FALLBACK, and what a boundary counts and trims (R18, R19). -/

namespace Sys2Proof.Machine

/-- R6, R8: a mark in NORMAL or UNSYNCED. -/
theorem slatMark_tracked {s : State} (smp : Samples) (hrun : s.running = true)
    (hcond : s.pos.cond = .normal ∨ s.pos.cond = .unsynced) :
    State.slatMark smp s =
      if s.pos.late s.cfg.guard then s.setPos { s.pos with missed := 0 } else s.boundaryWithEvent smp .marked := by
  obtain hc | hc := hcond <;> simp only [State.slatMark, hrun, if_true, State.mark, hc]

theorem pitch_marked (p : PositionUnit) :
    p.pitch .marked = if p.slips then { p with slipFlag := true } else { p with slipFlag := false, missed := 0 } := by
  simp [PositionUnit.pitch, BoundaryKind.checked]

theorem slips_iff (p : PositionUnit) : p.slips = true ↔ p.elapsed ≤ 62 ∨ 66 ≤ p.elapsed := by
  simp [PositionUnit.slips]

/-- Settles O16. -/
theorem markMakesBoundary : Obligations.MarkMakesBoundary := by
  intro s dt smp hrun hcond hlate
  have hcfg : (s.elapse dt).cfg = s.cfg := rfl
  have hundegraded : s.pos.cond.degraded = false := by obtain hc | hc := hcond <;> simp [hc, Condition.degraded]
  have hnotLate : (s.elapse dt).pos.late (s.elapse dt).cfg.guard = false := by
    obtain h | h := hlate <;> simp [PositionUnit.late, h]
  have heff : effect (.slatMark dt smp) (s.elapse dt) = (s.elapse dt).boundaryWithEvent smp .marked := by
    have hmark := slatMark_tracked smp (s := s.elapse dt) (by simpa using hrun) (by simpa using hcond)
    rw [hnotLate] at hmark
    exact hmark
  have hslip : (((s.elapse dt).pos.pitch .marked).slipFlag = true ↔ s.pos.slips = true) ∧
      (((s.elapse dt).pos.pitch .marked).slipFlag = false → ((s.elapse dt).pos.pitch .marked).missed = 0) := by
    rw [pitch_marked, (elapse_pos_values s dt).2.2.1]
    cases hslips : s.pos.slips <;> simp
  refine ⟨_, exec_answers heff, ?_⟩
  simp only [finish_frame, boundaryWithEvent_pos]
  refine ⟨by simp [BoundaryKind.carry], by simp, by simp, by simp, by simp, by simp, by simp, ?_, fun h => ?_,
    fun since h => ?_, fun h => ⟨?_, ?_⟩, fun h hc => ⟨?_, ?_, ?_, ?_, ?_⟩, fun h hc => ⟨?_, ?_⟩, fun h => ?_,
    sameBut_boundaryWithEvent _ (s.elapse dt).pos _ _, _, rfl, boundaryEvent_pos _ _ _ _, fun h => ?_, fun h hc => ?_,
    fun h hc hs => ?_⟩
  · simp only [atBoundary_fields]
    exact hslip.1.trans (slips_iff s.pos)
  · simp only [atBoundary_fields] at h ⊢
    rw [hslip.2 h, ite_self]
  · rw [atBoundary_period, measured_period hrun h rfl]
  · rw [atBoundary_slot_of_clear _ _ (by simpa using h)]
    simp
  · simp [seam_of_clear (p := (s.elapse dt).pos) _ (by simpa using h), conditionAfter]
  · exact atBoundary_slot_of_seamFlag _ _ (by simpa using h)
  · simp [seam_of_unsynced (p := (s.elapse dt).pos) _ (by simpa using h) (by simpa using hc), conditionAfter]
  · simp [seam_of_unsynced (p := (s.elapse dt).pos) _ (by simpa using h) (by simpa using hc)]
  · simp [seam_of_unsynced (p := (s.elapse dt).pos) _ (by simpa using h) (by simpa using hc)]
  · obtain ⟨-, hcount, -⟩ := trim_of_not_marked ((s.elapse dt).pos.pitch .marked) (k := .marked)
      ((s.elapse dt).pos.seam (s.elapse dt).cfg.slots) (.inr (by simp [hc]))
    simp only [atBoundary_fields, hcount]
  · exact atBoundary_slot_of_seamFlag _ _ (by simpa using h)
  · simp [conditionAfter, hc]
  · refine boundaryWithEvent_period smp .marked (by simpa using hrun) ?_
    have hold : (s.elapse dt).pos.cond = s.pos.cond := by simp
    rw [hold]
    exact flags_differ h (.inl hundegraded)
  · obtain ⟨hadv, hnoslip⟩ := boundaryEvent_advances (p := (s.elapse dt).pos) (c := (s.elapse dt).cfg) .marked (by
      simp only [elapse_pos, hcfg]
      exact h.imp_right fun ⟨hc, hs⟩ => ⟨by simp [hc], hs⟩)
    exact ⟨by simpa [BoundaryKind.carry] using hadv, hnoslip⟩
  · exact boundaryEvent_synchronises .marked (by simpa using h) (by simpa using hc)
  · exact boundaryEvent_slips .marked (by simpa using h) (by simp [hc]) (by simpa [hcfg] using hs)

/-! ### Marks that make no boundary -/

/-- Settles O17: the absorbed mark, and the mark in FREE-RUN by its offset. -/
theorem marksThatMakeNoBoundary : Obligations.MarksThatMakeNoBoundary := by
  refine ⟨fun s dt smp hrun hcond hsyn hguard hquiet => ?absorbed, fun s dt smp hrun hcond => ?freeRun⟩
  case absorbed =>
    have hlate : (s.elapse dt).pos.late (s.elapse dt).cfg.guard = true := by
      simp [PositionUnit.late, hsyn, hguard]
    have heff := slatMark_tracked smp (s := s.elapse dt) (by simpa using hrun) (by simpa using hcond)
    rw [hlate] at heff
    exact ⟨_, exec_answers (c := .slatMark dt smp) heff, by simp,
      (sameBut_setPos _ _).finish_quiet (elapse_asked_of dt hquiet)⟩
  case freeRun =>
    have hmark : State.slatMark smp (s.elapse dt) = (s.elapse dt).freeRunMark := by
      simp [State.slatMark, State.mark, hrun, hcond]
    have hsame : ∀ p : PositionUnit, SameBut (.pos :: binstateParts) (s.elapse dt) ((s.elapse dt).setPos p).finish :=
      fun p => ((sameBut_setPos _ p).mono (by simp)).finish (List.subset_cons_self _ _)
    have htol : (s.elapse dt).pos.inTolerance = true ↔ s.pos.step ≤ 1 ∨ s.pos.step = 63 := by
      simp [PositionUnit.inTolerance]
    by_cases hin : s.pos.step ≤ 1 ∨ s.pos.step = 63
    · have hgood : (s.elapse dt).pos.good = s.pos.good := by simp
      have hout : ¬ (1 < s.pos.step ∧ s.pos.step ≠ 63) := fun ⟨h1, h63⟩ => hin.elim (by omega) h63
      by_cases hfour : s.pos.good = 3
      · have heff : effect (.slatMark dt smp) (s.elapse dt) = ((s.elapse dt).setPos { (s.elapse dt).pos.trimEmpty with
            cond := .normal, good := 0, missed := 0, trimOpen := false }).announce .freeRun := by
          rw [effect, hmark, State.freeRunMark]
          simp only [htol.mpr hin, if_true, hgood, hfour]
        refine ⟨_, exec_answers heff, by simp [PositionUnit.trimEmpty], by simp [PositionUnit.trimEmpty],
          by simp [PositionUnit.trimEmpty], (sameBut_announce _ _ _).finish (List.subset_cons_self _ _),
          fun h1 h63 => absurd ⟨h1, h63⟩ hout, fun _ hne => absurd hfour hne, fun _ _ => ?_⟩
        refine ⟨by simp, by simp, by simp, by simp [PositionUnit.trimEmpty], by simp [PositionUnit.trimEmpty],
          finish_period (announce_asked (.inr (by simp [Condition.degraded]))) ?_⟩
        simpa [State.running] using hrun
      · have heff : effect (.slatMark dt smp) (s.elapse dt) =
            (s.elapse dt).setPos { (s.elapse dt).pos with good := s.pos.good + 1 } := by
          have hne : s.pos.good + 1 ≠ 4 := by omega
          rw [effect, hmark, State.freeRunMark]
          simp only [htol.mpr hin, if_true, hgood, hne, if_false]
        exact ⟨_, exec_answers heff, by simp, by simp, by simp, hsame _, fun h1 h63 => absurd ⟨h1, h63⟩ hout,
          fun _ _ => by simp [hcond], fun _ h => absurd h hfour⟩
    · have heff : effect (.slatMark dt smp) (s.elapse dt) = (s.elapse dt).setPos { (s.elapse dt).pos with good := 0 } := by
        rw [effect, hmark, State.freeRunMark]
        simp only [mt htol.mp hin]
        rfl
      exact ⟨_, exec_answers heff, by simp, by simp, by simp, hsame _, fun _ _ => by simp [hcond],
        fun h => absurd h hin, fun h => absurd h hin⟩

/-! ### FALLBACK -/

/-- R15: the interval after a boundary runs while FALLBACK lasts. -/
theorem atBoundary_stepTimer (p : PositionUnit) (c : Settings) (w : Timer) (k : BoundaryKind) (hk : k.carry c.guard < 63) :
    (p.atBoundary c w k).stepTimer =
      if (p.atBoundary c w k).cond = .fallback then (p.atBoundary c w k).period.map (fun t => t / 64 * 1000) else none := by
  have hstep : (p.atBoundary c w k).step < 63 := by simpa using hk
  have hinterval : (p.atBoundary c w k).stepTimer =
      if (p.atBoundary c w k).cond = .fallback ∧ (p.atBoundary c w k).step < 63 then
        (p.atBoundary c w k).period.map (fun t => t / 64 * 1000) else none := rfl
  simp only [hstep, and_true] at hinterval
  exact hinterval

/-- R15, R16: the boundary of a mark in FALLBACK, by the qualification in progress. -/
theorem slatMark_fallback {s : State} (smp : Samples) (hrun : s.running = true) (hcond : s.pos.cond = .fallback) :
    ∃ q k, State.slatMark smp s = (s.setPos { s.pos with qual := q }).boundaryWithEvent smp k ∧
      ((k = .returning ∧ ∃ c, s.pos.qual = some c ∧ 63 ≤ c + 1 ∧ c + 1 ≤ 65) ∨
        (k = .fallback ∧ ((∃ c, s.pos.qual = some c ∧ (c + 1 < 63 ∨ 65 < c + 1) ∧ q = some 0) ∨
          (s.pos.qual = none ∧ q = if s.pos.pulseSeen = true ∧ s.pos.watchdog.isSome = true then some 0 else none)))) := by
  have hmark : State.slatMark smp s = s.fallbackMark smp := by simp [State.slatMark, State.mark, hrun, hcond]
  rw [hmark, State.fallbackMark]
  split
  · next c hqual =>
    split
    · next hcount =>
      refine ⟨s.pos.qual, .returning, rfl, .inl ⟨rfl, c, hqual, ?_⟩⟩
      simp only [encoderElapsed] at hcount
      omega
    · next hcount =>
      refine ⟨some 0, .fallback, rfl, .inr ⟨rfl, .inl ⟨c, hqual, ?_, rfl⟩⟩⟩
      simp only [encoderElapsed] at hcount
      omega
  · next hqual =>
    split
    · next hopens =>
      rw [Bool.and_eq_true] at hopens
      exact ⟨some 0, .fallback, rfl, .inr ⟨rfl, .inr ⟨hqual, by rw [if_pos hopens]⟩⟩⟩
    · next hopens =>
      rw [Bool.and_eq_true] at hopens
      exact ⟨s.pos.qual, .fallback, rfl, .inr ⟨rfl, .inr ⟨hqual, by rw [if_neg hopens, hqual]⟩⟩⟩

/-- Settles O18. -/
theorem fallbackMarkMakesBoundary : Obligations.FallbackMarkMakesBoundary := by
  intro s dt smp hrun hcond
  obtain ⟨q, k, heff, hcase⟩ := slatMark_fallback smp (s := s.elapse dt) (by simpa using hrun) (by simpa using hcond)
  simp only [elapse_pos, elapse_pos_isSome] at hcase
  generalize hp : ({ (s.elapse dt).pos with qual := q } : PositionUnit) = p at heff
  have hsame : p.step = s.pos.step ∧ p.slot = s.pos.slot ∧ p.cond = .fallback ∧ p.seamFlag = s.pos.seamFlag ∧
      p.pend = s.pos.pend ∧ p.cur = s.pos.cur ∧ p.slipFlag = s.pos.slipFlag ∧ p.qual = q ∧
      p.sinceBoundary = (s.elapse dt).pos.sinceBoundary := by
    subst hp
    simp [hcond]
  obtain ⟨hstep, hslot, hpcond, hseam, hpend, hcur, hslip, hqual, hsince⟩ := hsame
  have hpos : ((s.elapse dt).setPos p).pos = p := rfl
  have hpcfg : ((s.elapse dt).setPos p).cfg = s.cfg := rfl
  have hsynced : p.cond ≠ .unsynced := by simp [hpcond]
  have hsync := seam_ne_sync (p := p) s.cfg.slots hsynced
  have hmarked : k ≠ .marked := by obtain ⟨rfl, -⟩ | ⟨rfl, -⟩ := hcase <;> decide
  have hcarry : k.carry s.cfg.guard = 0 := by
    obtain ⟨rfl, -⟩ | ⟨rfl, -⟩ := hcase <;> simp [BoundaryKind.carry]
  obtain ⟨-, htrimCount, -, hmade⟩ := trim_of_not_marked (p.pitch k) (p.seam s.cfg.slots) (.inl hmarked)
  refine ⟨_, exec_answers (c := .slatMark dt smp) heff, ?_⟩
  simp only [finish_frame, boundaryWithEvent_pos, hpos, hpcfg]
  refine ⟨by simp [hcarry], by simp, by simp only [atBoundary_fields, htrimCount], by simp, fun h => ?_, fun h => ?_,
    sameBut_boundaryWithEvent _ _ _ _, fun h => ?_, fun c hc h63 h65 => ?_, fun c hc hout => ?_, fun hnone => ?_,
    ⟨by simp [hpend, hcur], by simp only [atBoundary_fields, hmade], by simp, by simp, by simp,
      atBoundary_stepTimer _ _ _ _ (by omega), fun since h => ?_⟩,
    _, k, _, sameBut_setPos _ p, rfl, boundaryEvent_pos p s.cfg _ _, fun h => ?_, fun h hs => ?_⟩
  · rw [atBoundary_slot_of_clear _ _ (by rw [hseam, h]), hslot]
  · exact atBoundary_slot_of_seamFlag _ _ (by rw [hseam, h])
  · refine boundaryWithEvent_period smp k hrun ?_
    have hchanged : (p.atBoundary s.cfg ((s.elapse dt).setPos p).watchdogStart k).cond = .normal := by
      obtain ⟨rfl, -⟩ | ⟨rfl, -⟩ := hcase
      · simp [conditionAfter]
      · exact absurd (by simp [conditionAfter, hsync, hpcond, hcond]) h
    rw [hpos, hpcfg, hchanged, hpcond]
    exact .inr (by decide)
  · obtain ⟨rfl, -⟩ | ⟨-, ⟨d, hd, hout, -⟩ | ⟨hnone, -⟩⟩ := hcase
    · simp [conditionAfter]
    · rw [hc, Option.some.injEq] at hd
      omega
    · simp [hc] at hnone
  · obtain ⟨-, d, hd, hin⟩ | ⟨rfl, ⟨d, hd, -, hq⟩ | ⟨hnone, -⟩⟩ := hcase
    · rw [hc, Option.some.injEq] at hd
      omega
    · simp [conditionAfter, hsync, hpcond, hqual, hq, PositionUnit.pitch, BoundaryKind.checked, hslip]
    · simp [hc] at hnone
  · obtain ⟨-, d, hd, -⟩ | ⟨rfl, ⟨d, hd, -⟩ | ⟨-, hq⟩⟩ := hcase
    · simp [hnone] at hd
    · simp [hnone] at hd
    · simp [conditionAfter, hsync, hpcond, hqual, hq, PositionUnit.pitch, BoundaryKind.checked, hslip]
  · rw [atBoundary_period, measured_period hrun h hsince]
  · have hadv := boundaryEvent_advances (p := p) (c := s.cfg) k (by
      rw [hseam, hslot]
      exact h.imp_right fun hs => ⟨hsynced, hs⟩)
    simpa [hcarry, hstep] using hadv
  · exact boundaryEvent_slips (p := p) (c := s.cfg) k (hseam.trans h) hsynced (by rwa [hslot])

/-- Settles O19. -/
theorem fallbackStepAdvancesGate : Obligations.FallbackStepAdvancesGate := by
  intro s dt smp hrun hcond hbelt hroom hout
  have hpins : (s.elapse dt).pins = s.pins := rfl
  have hdue : Timer.due (s.elapse dt).pos.stepTimer = true := by
    rw [(elapse_pos_timers s dt hrun hbelt).2]
    exact hout.due
  have heff : effect (.fallbackStep dt smp) (s.elapse dt) =
      ((s.elapse dt).setPos ({ (s.elapse dt).pos with step := s.pos.step + 1 } : PositionUnit).restartInterval).stepEvent
        smp ⟨s.pos.gatePos + 1, some 1, false⟩ := by
    have hgate : 64 * s.pos.slot + (s.pos.step + 1) = s.pos.gatePos + 1 := rfl
    simp only [effect, State.fallbackStep, elapse_running, hrun, elapse_pos, hcond, hpins, hbelt, hroom, hdue, beq_self_eq_true,
      decide_true, Bool.and_self, if_true, State.synthesisedStep, PositionUnit.gatePos, setPos_pos, restartInterval_frame]
    rfl
  refine ⟨_, exec_answers heff, by simp, by simp, by simp [hcond], ?_, sameBut_stepEvent_setPos _ _ _ _,
    (s.elapse dt).setPos ({ (s.elapse dt).pos with step := s.pos.step + 1 } : PositionUnit).restartInterval, ?_,
    sameBut_setPos _ _, rfl⟩
  · simp [PositionUnit.restartInterval, hcond]
  · simp [PositionUnit.gatePos]
    omega

/-! ### What a boundary counts, and the trim -/

/-- R6, R7, R12: the two counts of a boundary. -/
theorem boundary_counters (s : State) (k : BoundaryKind) :
    (s.boundary k).counters = (s.countMany .pitchSlips
      (s.pos.pitchCount k + if s.pos.seam s.cfg.slots = .slip then 1 else 0)).counters := by
  have hmany : ∀ (n : Nat) (t u : State), t.counters = u.counters →
      (t.countMany .pitchSlips n).counters = (u.countMany .pitchSlips n).counters := by
    intro n
    induction n with
    | zero => exact fun _ _ h => h
    | succ n ih => exact fun t u h => ih _ _ (by simp [State.count, h])
  simp only [State.boundary, announce_frame]
  exact hmany _ _ _ (by simp)

theorem seam_eq_slip_iff (p : PositionUnit) (n : Nat) :
    p.seam n = .slip ↔ p.seamFlag = true ∧ p.cond ≠ .unsynced ∧ p.slot + 1 ≠ n := by
  unfold PositionUnit.seam
  split
  · split
    · simp_all
    · split <;> simp_all
  · simp_all

theorem pitchCount_eq (p : PositionUnit) (k : BoundaryKind) :
    p.pitchCount k = if k = .missed ∨ ((k = .marked ∨ k = .returning) ∧ p.slips = true) then 1 else 0 := by
  cases k <;> simp [PositionUnit.pitchCount, BoundaryKind.checked]

/-- Settles O20: each of the two counts is 0 or 1. -/
theorem boundaryCountsPitchSlips : Obligations.BoundaryCountsPitchSlips := by
  intro s k
  rw [boundary_counters, pitchCount_eq]
  simp only [seam_eq_slip_iff]
  refine ⟨fun hown hseam => ?_, fun hown hseam => ?_, fun hown hseam => ?_, fun hown hseam => ?_⟩
  · rw [if_pos hown, if_pos hseam]; rfl
  · rw [if_pos hown, if_neg hseam]; rfl
  · rw [if_neg hown, if_pos hseam]; rfl
  · rw [if_neg hown, if_neg hseam]; rfl

/-- R18: a marked boundary in NORMAL that is no slip takes the slot it closes, where a marked one opened it. -/
theorem trim_marked {p : PositionUnit} {o : SeamOutcome} (hcond : p.cond = .normal) (hopen : p.trimOpen = true)
    (hslip : o ≠ .slip) : p.trim .marked o = ({ p.takeSlot.1 with trimOpen := true }, p.takeSlot.2) := by
  simp [PositionUnit.trim, hcond, hopen, hslip]

theorem trim_slip {p : PositionUnit} (hcond : p.cond = .normal) :
    p.trim .marked .slip = ({ p.trimAtSlip with trimOpen := true }, none) := by
  simp [PositionUnit.trim, hcond]

/-- R2: the retention memory after a boundary: the pair is written where one is loaded. -/
theorem boundary_retention (s : State) (k : BoundaryKind) :
    (s.boundary k).retention =
      if s.pos.pend.isSome then { s.retention with pair := s.pos.pend.getD s.pos.cur, nominal := s.cfg.nominal }
      else s.retention := by
  simp only [State.boundary, announce_frame, countMany_frame, State.keepPair]
  split <;> simp

/-- Settles O21. -/
theorem trimWindowGivesPair : Obligations.TrimWindowGivesPair := by
  refine ⟨fun s hcond hopen hslip => ?window, fun s k hk => ?other, fun s hcond hslip => ?slip, fun s k => ?load⟩
  case window =>
    have hpcond : (s.pos.pitch .marked).cond = .normal := by simp [hcond]
    have htrim := trim_marked (o := s.pos.seam s.cfg.slots) hpcond (by simpa using hopen) hslip
    have htake : (s.pos.pitch .marked).takeSlot =
        if s.pos.trimCount + 1 = 16 then
          ((s.pos.pitch .marked).trimEmpty, trimResult s.pos.cur (s.pos.trimSum + s.pos.slotPulses))
        else ({ s.pos.pitch .marked with
          trimSum := s.pos.trimSum + s.pos.slotPulses, trimCount := s.pos.trimCount + 1 }, none) := by
      simp [PositionUnit.takeSlot]
    dsimp only
    simp only [boundary_pos, atBoundary_fields, htrim, htake]
    refine ⟨trivial, fun hbelow => ?_, fun hlast => ?_⟩
    · rw [if_neg (by omega)]
      exact ⟨rfl, rfl, rfl⟩
    · rw [if_pos (by omega)]
      refine ⟨rfl, rfl, fun h64 hmax hne => ?_, fun hbad => ?_⟩
      · simp only [trimResult]
        rw [if_pos ⟨h64, hmax, hne⟩]
      · simp only [trimResult]
        rw [if_neg (by rintro ⟨h64, hmax, hne⟩; omega)]
  case other =>
    obtain ⟨hsum, hcount, -⟩ := trim_of_not_marked (s.pos.pitch k) (s.pos.seam s.cfg.slots) (by simpa using hk)
    simp only [boundary_pos, atBoundary_fields]
    exact ⟨hsum, hcount⟩
  case slip =>
    simp only [boundary_pos, atBoundary_fields, hslip, trim_slip (p := s.pos.pitch .marked) (by simpa using hcond)]
    simp [PositionUnit.trimAtSlip]
  case load =>
    rw [boundary_retention]
    refine ⟨fun p hp => ?_, fun hnone => ?_⟩
    · simp [hp]
    · simp [hnone]

end Sys2Proof.Machine

/-! Every command: its answer, the lamps and the attention output (R113, R180, R190, R191). -/

namespace Sys2Proof.Machine

theorem effect_pending (c : Instr) (s : State) : (effect c s).pending = s.pending := by
  cases c <;> simp only [effect, State.hears, State.afterReset] <;> first | (split <;> simp) | simp

/-- A notice that START is over leaves the lamp to the end of the event. -/
theorem runNotice_lamp (s : State) (image : List Byte) :
    (s.runNotice image).ctl.lamp = s.ctl.lamp ∧ (s.runNotice image).ctl.lampTime = s.ctl.lampTime := by
  have hfaults : ∀ (l : List BinNo) (u : State), (l.foldl State.startEjector u).ctl = u.ctl :=
    fun l u => foldl_keeps State.ctl _ (by simp) l u
  unfold State.runNotice
  dsimp only
  split <;>
    simp [hfaults, State.startPosition, State.startGate, State.createOwnEntry, ModeController.toRun, State.enterSafe]

theorem completeRead_lamp (memory : List Byte) (home : Quad Bool) (s : State) :
    (State.completeRead memory home s).ctl.lamp = s.ctl.lamp := by
  unfold State.completeRead
  split
  · split
    · unfold State.readDone
      dsimp only
      split
      · exact (runNotice_lamp _ _).1
      · split <;> rfl
    · unfold State.attemptFailed
      dsimp only
      split <;> rfl
  · rfl

theorem enterSafe_lamp (s : State) : s.enterSafe.ctl.lamp = s.ctl.lamp := by
  unfold State.enterSafe
  dsimp only
  split <;> simp

theorem chainOpens_lamp (s : State) : s.chainOpens.ctl.lamp = s.ctl.lamp := by
  unfold State.chainOpens
  dsimp only
  split <;> simp [enterSafe_lamp]

theorem keyPress_lamp (s : State) : s.keyPress.ctl.lamp = s.ctl.lamp := by
  unfold State.keyPress State.press
  split
  · split <;> simp [State.enterService, State.leaveService, State.setMode, State.takeKey,
      foldl_keeps State.ctl State.clearFault (by simp)]
  · rfl

/-- R190: no effect but a reset's touches the lamp, and a reset turns it off. -/
theorem effect_lamp (c : Instr) (s : State) : (effect c s).ctl.lamp = s.ctl.lamp ∨ (effect c s).ctl.lampTime = 0 := by
  by_cases hline : onLine c = true
  · obtain h | ⟨u, h, heq⟩ := lineOrClash_effect c hline s
    · exact .inl (by rw [h.ctl])
    · refine .inl ?_
      rw [heq, ← h.ctl]
      rfl
  cases c <;> first | exact absurd rfl hline | simp only [effect]
  case powerOnReset => exact .inr rfl
  case externalReset => exact .inr rfl
  case start =>
    unfold State.beginStart
    split <;> exact .inl rfl
  case attemptFailure =>
    unfold State.failAttempt State.attemptFailed
    dsimp only
    (repeat' split) <;> exact .inl rfl
  case configReadRetry =>
    unfold State.retryRead
    split <;> exact .inl rfl
  case configReadComplete dt memory home => exact .inl (completeRead_lamp memory home s)
  case statusPeriodTimer =>
    unfold State.statusPeriod
    split
    · exact .inl (by simp)
    · exact .inl rfl
  case serviceKeyChange dt turned =>
    unfold State.keyChange
    dsimp only
    (repeat' split) <;> exact .inl rfl
  case serviceKeyPress => exact .inl (keyPress_lamp s)
  case safetyChainOpening => exact .inl (chainOpens_lamp s)
  case safetyChainClosing =>
    unfold State.chainCloses
    dsimp only
    (repeat' split) <;> exact .inl rfl
  case safeExit =>
    unfold State.safeExit
    split <;> exact .inl rfl
  case keySettledRelease =>
    unfold State.keyRelease
    split <;> exact .inl rfl
  all_goals exact .inl (by simp)

/-- R190: a pattern that the end of the event changes begins anew. -/
theorem finish_lampTime {s : State} (h : s.finish.ctl.lamp ≠ s.ctl.lamp) : s.finish.ctl.lampTime = 0 := by
  revert h
  unfold State.finish State.showLamp
  split
  · rw [answerAsked_ctl]
    exact fun h => absurd rfl h
  · exact fun _ => rfl

theorem finish_lampTime_same {s : State} (h : s.finish.ctl.lamp = s.ctl.lamp) :
    s.finish.ctl.lampTime = s.ctl.lampTime := by
  revert h
  unfold State.finish State.showLamp
  split
  · rw [answerAsked_ctl]
    exact fun _ => rfl
  · next hnew => exact fun h => absurd h (by simpa using hnew)

/-- R113, R180, R190: the flashes, in ns. -/
theorem lampPattern_lit (t n : Nat) :
    LampPattern.off.lit t = false ∧ LampPattern.steady.lit t = true ∧
    (LampPattern.interrupted.cycle = 1000000000 ∧ LampPattern.oneHz.cycle = 1000000000 ∧
      LampPattern.fourHz.cycle = 250000000 ∧ (LampPattern.code n).cycle = n * 600000000 + 2000000000) ∧
    (LampPattern.interrupted.lit t = true ↔ t < 750000000) ∧ (LampPattern.oneHz.lit t = true ↔ t < 500000000) ∧
    (LampPattern.fourHz.lit t = true ↔ t < 125000000) ∧
    ((LampPattern.code n).lit t = true ↔ t < n * 600000000 ∧ t % 600000000 < 300000000) := by
  have hcode : n * 600 * 1000000 = n * 600000000 := by omega
  refine ⟨rfl, rfl, ⟨rfl, rfl, rfl, ?_⟩, decide_eq_true_iff, decide_eq_true_iff, decide_eq_true_iff, ?_⟩
  · simp only [LampPattern.cycle, Nat.add_mul, hcode]
  · simp only [LampPattern.lit, hcode, Bool.and_eq_true, decide_eq_true_eq]

/-- R113: the lamp of a bin position. -/
theorem binLamp_of_configured {s : State} {b : BinNo} (hconf : (s.binCfg b).configured = true) (hrun : s.running = true) :
    s.binLamp b =
      if (s.bins.recs.get b).state = .held then !s.stationLamp
      else if (s.bins.recs.get b).faultShown = true ∨ (s.bins.recs.get b).state = .full then
        decide (s.ctl.flashPhase % 250000000 < 125000000)
      else match (s.bins.recs.get b).state with
        | .near => decide (s.ctl.flashPhase < 500000000)
        | .opened => true
        | _ => false := by
  simp only [State.binLamp, hconf, hrun, Bool.and_self, if_true]
  cases (s.bins.recs.get b).faultShown <;> cases (s.bins.recs.get b).state <;> simp

/-- R191: the causes of the attention output. -/
theorem attention_iff (s : State) : s.attention = true ↔ s.ctl.mode = .halted ∨
    (s.running = true ∧ (s.trk.foreignPulse ≠ none ∨
      ∃ b, (s.binCfg b).configured = true ∧
        ((s.bins.recs.get b).state = .full ∨ (s.bins.recs.get b).faultShown = true))) := by
  have hany : ∀ p : BinNo → Bool, s.cfg.configuredBins.any p = true ↔ ∃ b, (s.binCfg b).configured = true ∧ p b = true := by
    intro p
    simp [Settings.configuredBins, mem_allBins, State.binCfg]
  simp [State.attention, hany, Option.isSome_iff_ne_none]

/-- Settles O3. -/
theorem everyCommandAnswers : Obligations.EveryCommandAnswers := by
  refine ⟨fun c s => ?answer, fun s => ?patterns, fun s dt => ⟨rfl, rfl, rfl⟩, lampPattern_lit, fun s b => ?bins,
    attention_iff⟩
  case answer =>
    refine ⟨_, exec_answers rfl, ?_, finish_asked _, finish_lamp _, fun hnew => ?_⟩
    · simp [effect_pending]
    · have hold : (s.elapse (elapsedBy c)).ctl.lamp = s.ctl.lamp := by simp
      by_cases hend : (effect c (s.elapse (elapsedBy c))).finish.ctl.lamp = (effect c (s.elapse (elapsedBy c))).ctl.lamp
      · obtain h | h := effect_lamp c (s.elapse (elapsedBy c))
        · exact absurd (hend.trans (h.trans hold)) hnew
        · rw [finish_lampTime_same hend, h]
      · exact finish_lampTime hend
  case patterns =>
    refine ⟨fun hm hp => ?_, fun hm => ?_, fun hm hl hc => ?_, fun hm h => ?_, fun hm => ?_, fun hm => ?_⟩
    · simp [State.lampPattern, hm, State.listening, hp]
    · simp [State.lampPattern, hm]
    · simp [State.lampPattern, hm, hl, hc]
    · simp only [State.lampPattern, hm]
      exact if_neg (by tauto)
    · simp [State.lampPattern, hm]
    · simp [State.lampPattern, hm]
  case bins =>
    refine ⟨fun h => ?_, fun hconf hrun => ?_⟩
    · have hdark : ((s.binCfg b).configured && s.running) = false := by obtain h | h := h <;> simp [h]
      simp [State.binLamp, hdark]
    · rw [binLamp_of_configured hconf hrun]
      exact ⟨fun h => by simp [h], fun h h' => by simp [h, h'], fun h =>
        ⟨fun hs => by simp [h, hs], fun hs => by simp [h, hs], fun hs => by simp [h, hs]⟩⟩

end Sys2Proof.Machine

/-! START: the straps, the attempts of the read, and the checks of a complete one (R43, R175 to R180, R193). -/

namespace Sys2Proof.Machine

/-! ### Attempts (R175, R176) -/

/-- In HALTED the lamp shows the code and the attention output is on. -/
theorem finish_halted {s : State} {code : Nat} (hmode : s.ctl.mode = .halted) (hcode : s.ctl.haltCode = code) :
    s.finish.attention = true ∧ s.finish.ctl.lamp = .code code := by
  refine ⟨by simp [State.attention, hmode], ?_⟩
  rw [finish_lamp]
  simp [State.lampPattern, hmode, hcode]

theorem reading_iff (s : State) : s.reading = true ↔ s.ctl.mode = .start ∧ s.ctl.phase = .reading := by
  simp [State.reading]

/-- R176: the failed attempt: the third in a row ends START. -/
theorem attemptFailed_eq (s : State) :
    s.attemptFailed = s.setCtl (if s.ctl.failures < 2
      then { s.ctl with phase := .waiting, failures := s.ctl.failures + 1, retryTimer := some 10000000 }
      else { s.ctl with
        mode := .halted, phase := .ended, haltCode := 1, failures := s.ctl.failures + 1, retryTimer := none }) := by
  unfold State.attemptFailed
  dsimp only
  split
  · rw [if_neg (by omega)]
    rfl
  · rw [if_pos (by omega)]
    rfl

/-- Settles O6. -/
theorem startLatchesAndRetries : Obligations.StartLatchesAndRetries := by
  refine ⟨fun s dt straps hmode hphase hquiet => ?start, fun s dt hmode hphase hquiet => ?failure,
    fun s dt hmode hphase hout hquiet => ?retry⟩
  case start =>
    have heff : effect (.start dt straps) (s.elapse dt) =
        ((s.elapse dt).setPins { s.pins with straps := straps }).setCtl { (s.elapse dt).ctl with
          phase := .reading, address := straps.toNat + 1, failures := 0 } := by
      simp [effect, State.beginStart, hmode, hphase]
    refine ⟨_, exec_answers heff, by simp, ?_, by simp, SameBut.finish_quiet ?_ (elapse_asked_of dt hquiet)⟩
    · rw [finish_lamp]
      simp [State.lampPattern, State.listening, hmode]
    · simp [sameBut_iff]
  case failure =>
    have heff : effect (.attemptFailure dt) (s.elapse dt) = (s.elapse dt).attemptFailed := by
      simp [effect, State.failAttempt, reading_iff, hmode, hphase]
    rw [attemptFailed_eq, (elapse_ctl s dt).2.2.1] at heff
    refine ⟨_, exec_answers heff, (sameBut_setCtl _ _).finish_quiet (elapse_asked_of dt hquiet), fun h => ?_, fun h => ?_⟩
    · simp [h]
    · rw [if_neg (by omega)]
      obtain ⟨hattention, hlamp⟩ := finish_halted (s := (s.elapse dt).setCtl { (s.elapse dt).ctl with
        mode := .halted, phase := .ended, haltCode := 1, failures := s.ctl.failures + 1, retryTimer := none }) rfl rfl
      exact ⟨hattention, hlamp, by simp⟩
  case retry =>
    have hdue : Timer.due (s.elapse dt).ctl.retryTimer = true := by
      rw [(elapse_ctl_timers s dt).1]
      exact hout.due
    have heff : effect (.configReadRetry dt) (s.elapse dt) =
        (s.elapse dt).setCtl { (s.elapse dt).ctl with phase := .reading, retryTimer := none } :=
      if_pos ⟨by simpa using hmode, by simpa using hphase, hdue⟩
    exact ⟨_, exec_answers heff, (sameBut_setCtl _ _).finish_quiet (elapse_asked_of dt hquiet), by simp⟩

/-! ### The checks of the record (R43, R177, R193) -/

theorem byteAt_lt (bs : List Byte) (i : Nat) : byteAt bs i < 256 := (bs.getD i 0).isLt

theorem wordAt_lt (bs : List Byte) (i : Nat) : wordAt bs i < 65536 := by
  have hlow := byteAt_lt bs i
  have hhigh := byteAt_lt bs (i + 1)
  simp only [wordAt]
  omega

/-- R177 check 2: a sum of bytes, modulo 256. -/
theorem foldl_add_toNat (bs : List Byte) (a : Byte) :
    (bs.foldl (fun a b => a + b) a).toNat = (a.toNat + (bs.map BitVec.toNat).sum) % 256 := by
  induction bs generalizing a with
  | nil => simp [Nat.mod_eq_of_lt a.isLt]
  | cons b bs ih =>
    simp only [List.foldl_cons, ih, BitVec.toNat_add, List.map_cons, List.sum_cons]
    omega

theorem checksumOk_iff (bs : List Byte) : checksumOk bs = true ↔ (bs.map BitVec.toNat).sum % 256 = 0 := by
  have hsum := foldl_add_toNat bs 0#8
  simp only [checksumOk, beq_iff_eq, ← BitVec.toNat_inj, hsum]
  simp

theorem ClassRule.inRange_iff (r : ClassRule) : r.inRange = true ↔
    (1 ≤ r.cls ∧ r.cls ≤ 13) ∧ (1 ≤ r.lenLo ∧ r.lenLo ≤ r.lenHi ∧ r.lenHi ≤ 1023) ∧
    (1 ≤ r.heightLo ∧ r.heightLo ≤ r.heightHi ∧ r.heightHi ≤ 12) ∧ (r.dimLo ≤ r.dimHi ∧ r.dimHi ≤ 16) ∧
    ∀ lo hi, r.metal = some (lo, hi) → lo ≤ hi ∧ hi ≤ 4095 := by
  cases hmetal : r.metal with
  | none =>
    simp only [ClassRule.inRange, hmetal, Bool.and_eq_true, within_iff, decide_eq_true_eq, and_true, reduceCtorEq,
      false_imp_iff, implies_true]
    omega
  | some bounds =>
    obtain ⟨lo, hi⟩ := bounds
    have hbounds : (∀ lo' hi', some (lo, hi) = some (lo', hi') → lo' ≤ hi' ∧ hi' ≤ 4095) ↔ lo ≤ hi ∧ hi ≤ 4095 :=
      ⟨fun h => h lo hi rfl, by rintro h _ _ ⟨⟩; exact h⟩
    simp only [ClassRule.inRange, hmetal, hbounds, Bool.and_eq_true, within_iff, decide_eq_true_eq]
    omega

/-- R193: bits 3 to 7 of a byte are clear. -/
theorem bitField_eq_zero_iff {n lo width : Nat} (h : n < 2 ^ (lo + width)) : bitField n lo width = 0 ↔ n < 2 ^ lo := by
  have hquot : n / 2 ^ lo < 2 ^ width := by
    rw [Nat.div_lt_iff_lt_mul (Nat.two_pow_pos lo), ← Nat.pow_add, Nat.add_comm]
    exact h
  rw [bitField, Nat.mod_eq_of_lt hquot, Nat.div_eq_zero_iff]
  simp

theorem tripleAt_eq_zero_iff (bs : List Byte) (i : Nat) :
    tripleAt bs i = 0 ↔ byteAt bs i = 0 ∧ byteAt bs (i + 1) = 0 ∧ byteAt bs (i + 2) = 0 := by
  simp only [tripleAt, wordAt]
  omega

theorem unusedClear_iff (bs : List Byte) : unusedClear bs = true ↔
    byteAt bs 1 = 0 ∧ wordAt bs 23 < 4096 ∧
      (∀ b : BinNo, (byteAt bs (25 + 14 * (b.number - 1))).testBit 0 = true → byteAt bs (25 + 14 * (b.number - 1)) < 8) ∧
      ∀ k, k < byteAt bs 81 → byteAt bs (82 + 10 * k) / 16 % 8 = 0 ∧
        ((byteAt bs (82 + 10 * k)).testBit 7 = true → byteAt bs (89 + 10 * k) = 0 ∧ byteAt bs (90 + 10 * k) = 0 ∧
          byteAt bs (91 + 10 * k) = 0) := by
  have hbalance : bitField (wordAt bs 23) 12 4 = 0 ↔ wordAt bs 23 < 4096 := bitField_eq_zero_iff (wordAt_lt bs 23)
  have hbin : ∀ i, bitField (byteAt bs i) 3 5 = 0 ↔ byteAt bs i < 8 := fun i => bitField_eq_zero_iff (byteAt_lt bs i)
  have hrule : ∀ k, tripleAt bs (82 + 10 * k + 7) = 0 ↔
      byteAt bs (89 + 10 * k) = 0 ∧ byteAt bs (90 + 10 * k) = 0 ∧ byteAt bs (91 + 10 * k) = 0 := by
    intro k
    rw [tripleAt_eq_zero_iff, show 82 + 10 * k + 7 = 89 + 10 * k by omega, show 89 + 10 * k + 1 = 90 + 10 * k by omega,
      show 89 + 10 * k + 2 = 91 + 10 * k by omega]
  simp only [unusedClear, Bool.and_eq_true, beq_iff_eq, List.all_eq_true, mem_allBins, true_imp_iff, List.mem_range,
    ruleCount, Bool.or_eq_true, Bool.not_eq_true', Bool.eq_false_iff, ne_eq, ← imp_iff_not_or, hbalance, hbin, hrule,
    binBase, and_assoc]
  rfl

theorem rangesOk_iff (bs : List Byte) : rangesOk bs = true ↔
    (83 ≤ bs.length ∧ byteAt bs 81 ≤ 16 ∧ 83 + 10 * byteAt bs 81 ≤ bs.length) ∧ (settingsOf bs).inRange = true ∧
      unusedClear bs = true ∧ ∀ k, k < byteAt bs 81 → (ruleAt bs k).inRange = true := by
  simp only [rangesOk, lengthOk, Bool.and_eq_true, decide_eq_true_eq]
  simp only [ruleCount, rulesOf, List.all_eq_true, List.mem_map, List.mem_range, forall_exists_index, and_imp,
    forall_apply_eq_imp_iff₂, and_assoc]

/-- R177: the code of a record, by the first check it fails. -/
theorem checkImage_iff (bs : List Byte) :
    (checkImage bs = some 2 ↔ checksumOk bs = false) ∧
    (checkImage bs = some 3 ↔ checksumOk bs = true ∧ rangesOk bs = false) ∧
    (checkImage bs = some 4 ↔ checksumOk bs = true ∧ rangesOk bs = true ∧ (settingsOf bs).lineOrderOk = false) ∧
    (checkImage bs = some 5 ↔ checksumOk bs = true ∧ rangesOk bs = true ∧ (settingsOf bs).lineOrderOk = true ∧
      binClassesOk (settingsOf bs) (rulesOf bs) = false) ∧
    (checkImage bs = none ↔ checksumOk bs = true ∧ rangesOk bs = true ∧ (settingsOf bs).lineOrderOk = true ∧
      binClassesOk (settingsOf bs) (rulesOf bs) = true) := by
  unfold checkImage
  cases checksumOk bs
  case false => simp
  cases rangesOk bs
  case false => simp
  cases (settingsOf bs).lineOrderOk
  case false => simp
  cases binClassesOk (settingsOf bs) (rulesOf bs) <;> simp

theorem binClassesOk_iff (c : Settings) (rules : List ClassRule) : binClassesOk c rules = true ↔
    ∀ b, (c.bins.get b).configured = true → ∃ r ∈ rules, r.cls = (c.bins.get b).cls := by
  rw [binClassesOk, configuredBins_all]
  simp

/-- R177, R180: a complete record that fails a check leaves the read as a halt. -/
theorem completeRead_fails {s : State} {memory image : List Byte} {home : Quad Bool} {code : Nat} (hreading : s.reading = true)
    (hrecord : recordOf memory = some image) (hcheck : checkImage image = some code) :
    (State.completeRead memory home s).ctl.mode = .halted ∧ (State.completeRead memory home s).ctl.haltCode = code ∧
      SameBut [.mode, .pins, .classifier] s (State.completeRead memory home s) := by
  simp only [State.completeRead, hreading, if_true, hrecord, State.readDone, hcheck]
  split <;> exact ⟨rfl, rfl, by simp [sameBut_iff]⟩

/-- Settles O7. -/
theorem failedCheckHaltsWithItsCode : Obligations.FailedCheckHaltsWithItsCode := by
  refine ⟨fun s dt memory image home code hmode hphase hquiet hrecord hcheck => ?halt, fun bs => ?checks, fun c => ?ranges,
    ClassRule.inRange_iff, binClassesOk_iff⟩
  case halt =>
    obtain ⟨hhalted, hcode, hsame⟩ := completeRead_fails (s := s.elapse dt) (home := home)
      ((reading_iff _).mpr ⟨by simpa using hmode, by simpa using hphase⟩) hrecord hcheck
    obtain ⟨hattention, hlamp⟩ := finish_halted hhalted hcode
    have heff : effect (.configReadComplete dt memory home) (s.elapse dt) =
        State.completeRead memory home (s.elapse dt) := rfl
    refine ⟨_, exec_answers heff, by simpa using hhalted, by simpa using hcode, hattention, hlamp, hsame.finish_quiet ?_⟩
    rw [hsame .bins (by simp)]
    exact elapse_asked_of dt hquiet
  case checks =>
    obtain ⟨h2, h3, h4, h5, hnone⟩ := checkImage_iff bs
    exact ⟨h2, h3, h4, h5, hnone, checksumOk_iff bs, rangesOk_iff bs, unusedClear_iff bs⟩
  case ranges =>
    simp only [Settings.inRange_iff, BinSettings.inRange_iff]

end Sys2Proof.Machine

/-! The run notice (R21, R22, R39, R109 to R111, R137, R148, R166, R179): the blocks begin work, one after the other. -/

namespace Sys2Proof.Machine

/-! ### Work done position by position -/

/-- In a pass over the four bins that touches each bin's part in its own turn alone, bin `b`'s part comes out of its own
turn, which finds it, and what no turn touches, as they were. -/
theorem allBins_foldl_own {α β : Type} (env : State → β) (part : State → BinNo → α) (g : State → BinNo → State)
    (henv : ∀ s b, env (g s b) = env s) (hother : ∀ s b c, c ≠ b → part (g s b) c = part s c) (s : State) (b : BinNo) :
    ∃ u, env u = env s ∧ part u b = part s b ∧ part (allBins.foldl g s) b = part (g u b) b := by
  cases b
  · exact ⟨s, rfl, rfl, by simp [allBins, hother]⟩
  · exact ⟨g s .bin1, by simp [henv], by simp [hother], by simp [allBins, hother]⟩
  · exact ⟨g (g s .bin1) .bin2, by simp [henv], by simp [hother], by simp [allBins, hother]⟩
  · exact ⟨g (g (g s .bin1) .bin2) .bin3, by simp [henv], by simp [hother], by simp [allBins]⟩

theorem mem_configuredBins (c : Settings) (b : BinNo) : b ∈ c.configuredBins ↔ (c.bins.get b).configured = true := by
  simp [Settings.configuredBins, mem_allBins]

/-- Work done bin by bin for the configured ones is work done for all, which passes over the others. -/
theorem configuredBins_foldl (c : Settings) (g : State → BinNo → State) (s : State) :
    c.configuredBins.foldl g s = allBins.foldl (fun u b => if (c.bins.get b).configured then g u b else u) s := by
  rw [Settings.configuredBins, List.foldl_filter]

theorem Quad.set_get_self {α : Type} (q : Quad α) (b : BinNo) : q.set b (q.get b) = q := by
  cases b <;> rfl

/-! ### Ejectors without items -/

/-- A schedule without items has nothing to cancel. -/
theorem cancelSchedule_of_empty {s : State} {b : BinNo} (r : PassReason) (h : (s.ej.get b).schedule = []) :
    s.cancelSchedule b r = s := by
  have hsame : ({ s.ej.get b with schedule := [] } : Ejector) = s.ej.get b := by rw [← h]
  rw [State.cancelSchedule, hsame, h, List.foldl_nil, State.setEjector, Quad.set_get_self]
  rfl

theorem cancelAll_of_empty {s : State} (r : PassReason) (h : ∀ b, (s.ej.get b).schedule = []) : s.cancelAll r = s := by
  simp [State.cancelAll, allBins, cancelSchedule_of_empty r (h _)]

theorem cutAll_of_still {s : State} (h : ∀ b, (s.ej.get b).state ≠ .pulsing) : s.cutAll = s := by
  have hcut : ∀ b, s.cut b = s := fun b => if_neg (h b)
  simp [State.cutAll, allBins, hcut]

/-- The ejector in FAULT. -/
def Ejector.faulted (e : Ejector) : Ejector := { e with state := .fault, shadow := false, pulse := none, recovery := none }

theorem enterFault_of_empty {s : State} {b : BinNo} (hstate : (s.ej.get b).state ≠ .fault)
    (h : (s.ej.get b).schedule = []) : s.enterFault b = (s.setEjector b (s.ej.get b).faulted).showFault b true := by
  rw [State.enterFault, if_neg hstate, cancelSchedule_of_empty]
  · rfl
  · simp [State.setEjector, h]

/-! ### The arm-home check (R137) -/

theorem enterFault_retention (s : State) (b : BinNo) : (s.enterFault b).retention = s.retention := by
  unfold State.enterFault
  split
  · rfl
  · simp [State.showFault, State.setEjector]

@[simp] theorem startEjectors_frame (l : List BinNo) (s : State) :
    (l.foldl State.startEjector s).cfg = s.cfg ∧ (l.foldl State.startEjector s).pos = s.pos ∧
    (l.foldl State.startEjector s).gate = s.gate ∧ (l.foldl State.startEjector s).classifier = s.classifier ∧
    (l.foldl State.startEjector s).ctl = s.ctl ∧ (l.foldl State.startEjector s).pins = s.pins ∧
    (l.foldl State.startEjector s).pending = s.pending ∧ (l.foldl State.startEjector s).retention = s.retention ∧
    (l.foldl State.startEjector s).ltu.peers = s.ltu.peers := by
  have hret : ∀ (s : State) b, (s.startEjector b).retention = s.retention := by
    intro s b
    unfold State.startEjector
    split
    · exact enterFault_retention s b
    · rfl
  have hpeers : ∀ (s : State) b, (s.startEjector b).ltu.peers = s.ltu.peers := by
    intro s b
    unfold State.startEjector
    split <;> simp
  exact ⟨foldl_keeps State.cfg _ (by simp) l s, foldl_keeps State.pos _ (by simp) l s,
    foldl_keeps State.gate _ (by simp) l s, foldl_keeps State.classifier _ (by simp) l s,
    foldl_keeps State.ctl _ (by simp) l s, foldl_keeps State.pins _ (by simp) l s, foldl_keeps State.pending _ (by simp) l s,
    foldl_keeps State.retention _ hret l s, foldl_keeps (fun s : State => s.ltu.peers) _ hpeers l s⟩

/-- With no item scheduled, the check reaches the ejectors and the bin records alone. -/
theorem startEjectors_of_empty (l : List BinNo) (s : State) (h : ∀ b, (s.ej.get b).schedule = []) :
    (l.foldl State.startEjector s).port = s.port ∧ (l.foldl State.startEjector s).ltu = s.ltu ∧
      ∀ b, ((l.foldl State.startEjector s).ej.get b).schedule = [] := by
  induction l generalizing s with
  | nil => exact ⟨rfl, rfl, h⟩
  | cons c l ih =>
    rw [List.foldl_cons]
    by_cases hfault : ((s.binCfg c).homeFitted && !s.pins.armHome.get c) = true ∧ (s.ej.get c).state ≠ .fault
    · obtain ⟨hcheck, hstate⟩ := hfault
      have hstep : s.startEjector c = (s.setEjector c (s.ej.get c).faulted).showFault c true := by
        rw [State.startEjector, if_pos hcheck, enterFault_of_empty hstate (h c)]
      obtain ⟨hport, hltu, hsched⟩ := ih (s.startEjector c) (fun b => by
        rw [hstep]
        by_cases hb : b = c
        · subst hb
          simp [State.showFault, State.setEjector, Ejector.faulted, h]
        · simp [State.showFault, State.setEjector, hb, h])
      exact ⟨by rw [hport, hstep]; simp [State.showFault, State.setEjector],
        by rw [hltu, hstep]; simp [State.showFault, State.setEjector], hsched⟩
    · have hstep : s.startEjector c = s := by
        unfold State.startEjector State.enterFault
        split
        · next hcheck => exact if_pos (not_not.mp fun hstate => hfault ⟨hcheck, hstate⟩)
        · rfl
      rw [hstep]
      exact ih s h

/-- R137: the ejector and the shown fault of bin `b`, where ejectors and records stand at their reset values. -/
theorem startEjectors_at (s : State) (b : BinNo) (hej : s.ej.get b = Ejector.reset)
    (hrec : (s.bins.recs.get b).faultShown = false) :
    let t := s.cfg.configuredBins.foldl State.startEjector s
    let faulty := (s.binCfg b).configured && (s.binCfg b).homeFitted && !s.pins.armHome.get b
    t.ej.get b = (if faulty then { Ejector.reset with state := .fault } else Ejector.reset) ∧
      (t.bins.recs.get b).faultShown = faulty := by
  intro t faulty
  have ht : t = s.cfg.configuredBins.foldl State.startEjector s := rfl
  rw [configuredBins_foldl] at ht
  obtain ⟨u, henv, hpart, hfold⟩ := allBins_foldl_own (fun u : State => (u.cfg, u.pins))
    (fun u b => (u.ej.get b, (u.bins.recs.get b).faultShown))
    (fun u b => if (s.cfg.bins.get b).configured then u.startEjector b else u)
    (by intro u c; split <;> simp)
    (by
      intro u c d hd
      split
      · unfold State.startEjector
        split
        · by_cases hstate : (u.ej.get c).state = .fault
          · simp [State.enterFault, hstate]
          · obtain ⟨-, hrecs⟩ := enterFault_recs u c hstate
            simp [enterFault_ej u c hstate, hrecs d hd, hd]
        · rfl
      · rfl) s b
  rw [← ht] at hfold
  simp only [Prod.mk.injEq] at henv hpart hfold
  obtain ⟨hcfg, hpins⟩ := henv
  obtain ⟨huej, hurec⟩ := hpart
  obtain ⟨htej, htrec⟩ := hfold
  rw [htej, htrec]
  have hconf : (s.binCfg b).configured = (s.cfg.bins.get b).configured := rfl
  have hu : u.binCfg b = s.binCfg b := by simp [State.binCfg, hcfg]
  rw [hej] at huej
  rw [hrec] at hurec
  by_cases hcheck : faulty = true
  · have hready : (u.ej.get b).state ≠ .fault := by simp [huej, Ejector.reset]
    have hstep : u.startEjector b = u.enterFault b := if_pos (by
      simp only [faulty, Bool.and_eq_true] at hcheck
      simp [hu, hpins, hcheck.1.2, by simpa using hcheck.2])
    have hc : (s.cfg.bins.get b).configured = true := by
      simp only [faulty, Bool.and_eq_true] at hcheck
      exact hcheck.1.1
    rw [if_pos hc, hstep, hcheck, if_pos rfl, enterFault_ej u b hready]
    obtain ⟨hshown, -⟩ := enterFault_recs u b hready
    exact ⟨by simp [huej, Ejector.reset], hshown⟩
  · have hstep : (if (s.cfg.bins.get b).configured then u.startEjector b else u) = u := by
      split
      · next hc =>
        refine if_neg fun h => hcheck ?_
        simp only [hu, hpins, Bool.and_eq_true] at h
        simp [faulty, hconf, hc, h.1, by simpa using h.2]
      · rfl
    rw [hstep, huej, hurec]
    simp [hcheck]

end Sys2Proof.Machine

/-! The run notice, continued: the bins' start, the joining of the ring, an open chain; the station as it enters RUN. -/

namespace Sys2Proof.Machine

/-! ### The Bin Unit's start (R109, R110) -/

/-- R110: the record a bin starts with. -/
def State.startRecord (s : State) (b : BinNo) : BinRecord :=
  recordAtStart (s.binCfg b) (s.retention.bins.get b) (s.pins.binPresent.get b)
    ((s.binCfg b).fullFitted && s.pins.binFull.get b) (s.bins.recs.get b).faultShown

theorem startBin_same (s : State) (b : BinNo) :
    (s.startBin b).bins.recs.get b = (if (s.binCfg b).configured then s.startRecord b else s.bins.recs.get b) ∧
    (s.startBin b).retention.bins.get b = (if (s.binCfg b).configured
      then ⟨(s.startRecord b).fill, (s.startRecord b).unverified, (s.binCfg b).cls⟩ else ⟨0, false, 0⟩) ∧
    ((s.binCfg b).configured = true → ((s.startBin b).bins.present.get b).settled = s.pins.binPresent.get b) := by
  unfold State.startBin
  dsimp only
  cases (s.binCfg b).configured <;> simp [State.startRecord]

theorem startBin_other (s : State) {b c : BinNo} (h : c ≠ b) :
    (s.startBin b).bins.recs.get c = s.bins.recs.get c ∧ (s.startBin b).retention.bins.get c = s.retention.bins.get c ∧
    (s.startBin b).bins.present.get c = s.bins.present.get c := by
  unfold State.startBin
  dsimp only
  cases (s.binCfg b).configured <;> simp [h]

/-- R110: each position's record, retention record and sensor after the start. -/
theorem startBins_at (s : State) (b : BinNo) :
    s.startBins.bins.recs.get b = (if (s.binCfg b).configured then s.startRecord b else s.bins.recs.get b) ∧
    s.startBins.retention.bins.get b = (if (s.binCfg b).configured
      then ⟨(s.startRecord b).fill, (s.startRecord b).unverified, (s.binCfg b).cls⟩ else ⟨0, false, 0⟩) ∧
    ((s.binCfg b).configured = true → (s.startBins.bins.present.get b).settled = s.pins.binPresent.get b) := by
  obtain ⟨u, henv, hpart, hfold⟩ := allBins_foldl_own (fun u : State => (u.cfg, u.pins))
    (fun u b => (u.bins.recs.get b, u.retention.bins.get b, u.bins.present.get b)) State.startBin (by simp)
    (fun u b c hc => by simp [startBin_other u hc]) s b
  simp only [Prod.mk.injEq] at henv hpart hfold
  obtain ⟨hcfg, hpins⟩ := henv
  obtain ⟨hurec, huret, hupres⟩ := hpart
  obtain ⟨htrec, htret, htpres⟩ := hfold
  obtain ⟨hrec, hret, hpres⟩ := startBin_same u b
  have hu : u.binCfg b = s.binCfg b := by simp [State.binCfg, hcfg]
  have hstart : u.startRecord b = s.startRecord b := by simp [State.startRecord, hu, huret, hpins, hurec]
  rw [hu, hpins] at hpres
  refine ⟨?_, ?_, ?_⟩
  · simp only [State.startBins, State.askBinstate, setBins_bins, htrec, hrec, hu, hstart, hurec]
  · simp only [State.startBins, State.askBinstate, setBins_retention, htret, hret, hu, hstart]
  · simp only [State.startBins, State.askBinstate, setBins_bins, htpres]
    exact hpres

/-- R110: a bin that is there takes its fill from retention memory, one that is not holds nothing. -/
theorem startRecord_fields (s : State) (b : BinNo) :
    (s.startRecord b).pending = 0 ∧ (s.startRecord b).faultShown = (s.bins.recs.get b).faultShown ∧
    (s.pins.binPresent.get b = false →
      (s.startRecord b).state = .absent ∧ (s.startRecord b).fill = 0 ∧ (s.startRecord b).unverified = false) ∧
    (s.pins.binPresent.get b = true →
      ((s.retention.bins.get b).cls = (s.binCfg b).cls →
        (s.startRecord b).fill = min (s.retention.bins.get b).fill (s.binCfg b).capacity ∧
        (s.startRecord b).unverified = (s.retention.bins.get b).unverified) ∧
      ((s.retention.bins.get b).cls ≠ (s.binCfg b).cls →
        (s.startRecord b).fill = 0 ∧ (s.startRecord b).unverified = true) ∧
      (s.startRecord b).state =
        if (s.startRecord b).fill = (s.binCfg b).capacity ∨
          ((s.binCfg b).fullFitted = true ∧ s.pins.binFull.get b = true) then .full
        else if (s.binCfg b).near ≤ 16 * (s.startRecord b).fill / (s.binCfg b).capacity then .near else .opened) := by
  unfold State.startRecord recordAtStart
  cases s.pins.binPresent.get b with
  | false => simp
  | true =>
    refine ⟨rfl, rfl, by simp, fun _ => ⟨fun h => by simp [h], fun h => by simp [h], ?_⟩⟩
    simp [stateFound, stateByFill, sixteenths]

/-! ### Queueing behind a busy transmitter (R145, R162) -/

/-- A frame that replaces none joins the tail of a queue with room, and waits there for a transmitter that is not FREE. -/
theorem enqueueOwn_waits {s : State} {f : Frame} (hlink : s.port.link ≠ .bypassed)
    (hnew : f.kind ≠ Config.kindBinstate ∨ s.ltu.holds Config.kindBinstate = false) (hroom : s.ltu.ownQueue.length < 8)
    (htx : s.port.tx ≠ .free) :
    s.enqueueOwn f = s.setLtu { s.ltu with ownQueue := s.ltu.ownQueue ++ [f] } := by
  have hreplaces : ¬ (f.kind = Config.kindBinstate ∧ s.ltu.holds Config.kindBinstate = true) := by
    rintro ⟨hkind, hholds⟩
    obtain h | h := hnew
    · exact h hkind
    · simp [hholds] at h
  have hfull : ¬ Config.ownQueueMax ≤ s.ltu.ownQueue.length := by
    simp only [Config.ownQueueMax]
    omega
  rw [State.enqueueOwn, if_neg hlink, if_neg hreplaces, if_neg hfull, State.askArbiter]
  exact if_neg htx

/-! ### The joining of the ring (R148) -/

theorem join_link (s : State) :
    s.join.port.link = .joining ∧ s.join.port.relayDrive = true ∧ s.join.port.joinTimer = some 200000000 ∧
    s.join.ltu.joinRetry = 1 ∧ s.join.ltu.peers = s.ltu.peers := by
  simp [State.join, State.requestJoiningRoll, State.toLink, Timer.start, Config.joinMs]

theorem rollFrame_kind (s : State) (new : Bool) : (s.rollFrame new).kind ≠ Config.kindBinstate :=
  show Config.kindRoll ≠ Config.kindBinstate by decide

/-- R148: a silent transmitter with an empty own queue starts its gap, and the joining ROLL waits. -/
theorem join_silent {s : State} (htx : s.port.tx = .silent) (hown : s.ltu.ownQueue = []) :
    s.join.port.tx = .gap ∧ s.join.port.txTimer = some 8000 ∧ s.join.ltu.ownQueue = [s.rollFrame true] := by
  unfold State.join State.requestJoiningRoll
  dsimp only
  rw [enqueueOwn_waits]
  · simp only [htx, if_true, setLtu_port, setPort_port, setLtu_ltu, setPort_ltu, hown]
    exact ⟨rfl, rfl, rfl⟩
  · simp [State.toLink]
  · exact .inl (rollFrame_kind _ _)
  · simp [hown]
  · simp [State.toLink, htx, LoopPort.gap]

/-! ### An open chain at the end of START (R184) -/

/-- Of bin `b`, its sensor and retention memory, no more changes than the pending count, which does not rise. -/
structure PendingFalls (b : BinNo) (s t : State) : Prop where
  state : (t.bins.recs.get b).state = (s.bins.recs.get b).state
  fill : (t.bins.recs.get b).fill = (s.bins.recs.get b).fill
  unverified : (t.bins.recs.get b).unverified = (s.bins.recs.get b).unverified
  faultShown : (t.bins.recs.get b).faultShown = (s.bins.recs.get b).faultShown
  pending : (t.bins.recs.get b).pending ≤ (s.bins.recs.get b).pending
  present : t.bins.present = s.bins.present
  retention : t.retention = s.retention

theorem PendingFalls.of_same {b : BinNo} {s t : State} (hrecs : t.bins.recs = s.bins.recs := by simp)
    (hpresent : t.bins.present = s.bins.present := by simp) (hretention : t.retention = s.retention := by simp) :
    PendingFalls b s t := by
  constructor <;> simp [hrecs, hpresent, hretention]

theorem PendingFalls.trans {b : BinNo} {s t u : State} (h1 : PendingFalls b s t) (h2 : PendingFalls b t u) :
    PendingFalls b s u where
  state := h2.state.trans h1.state
  fill := h2.fill.trans h1.fill
  unverified := h2.unverified.trans h1.unverified
  faultShown := h2.faultShown.trans h1.faultShown
  pending := Nat.le_trans h2.pending h1.pending
  present := h2.present.trans h1.present
  retention := h2.retention.trans h1.retention

theorem pendingFalls_foldl {α : Type} (b : BinNo) (g : State → α → State) (h : ∀ s x, PendingFalls b s (g s x)) (l : List α)
    (s : State) : PendingFalls b s (l.foldl g s) := by
  induction l generalizing s with
  | nil => exact .of_same rfl rfl rfl
  | cons x l ih => exact (h s x).trans (ih _)

theorem pendingFalls_cancelItem (b c : BinNo) (r : PassReason) (s : State) (it : SchedItem) :
    PendingFalls b s (s.cancelItem c r it) := by
  have hpresent : (s.cancelItem c r it).bins.present = s.bins.present := by simp [State.cancelItem]
  by_cases hb : b = c
  · subst hb
    constructor <;> simp [hpresent]
  · constructor <;> simp [hpresent, hb]

theorem pendingFalls_cancelAll (b : BinNo) (r : PassReason) (s : State) : PendingFalls b s (s.cancelAll r) :=
  pendingFalls_foldl b _ (fun u c => PendingFalls.trans (t := u.setEjector c { u.ej.get c with schedule := [] })
    (.of_same rfl rfl rfl) (pendingFalls_foldl b _ (pendingFalls_cancelItem b c r) _ _)) _ _

theorem pendingFalls_enterSafe (b : BinNo) (s : State) : PendingFalls b s s.enterSafe := by
  have hend : ∀ (u : State) (m : ModeController), PendingFalls b u ((u.setCtl m).askBinstate) := fun u m =>
    .of_same rfl rfl rfl
  have hcut : PendingFalls b s s.cutAll := .of_same
  unfold State.enterSafe
  dsimp only
  split
  · exact (hcut.trans (pendingFalls_cancelAll b _ _)).trans (hend _ _)
  · exact hcut.trans (hend _ _)

end Sys2Proof.Machine

/-! The station as it enters RUN, or SAFE at once (R179, R184): what the run notice gives every block. -/

namespace Sys2Proof.Machine

/-! ### The run notice in three parts: the blocks' first values, the work of the ejectors, the ring and the bins, the chain -/

/-- R21, R39, R49, R166, R179: the configuration in force and the first values of the blocks. -/
def State.noticed (s : State) (image : List Byte) : State :=
  (((s.setCfg (settingsOf image)).takeTable image).setCtl (s.ctl.toRun s.pins)).startPosition.startGate.createOwnEntry

/-- R110, R137, R148: the arm-home check, the joining of the ring, and the bins' start. -/
def State.begun (s : State) (image : List Byte) : State :=
  ((s.noticed image).cfg.configuredBins.foldl State.startEjector (s.noticed image)).join.startBins

theorem runNotice_eq (s : State) (image : List Byte) :
    s.runNotice image = if (s.begun image).pins.chainClosed then s.begun image else (s.begun image).enterSafe := rfl

theorem noticed_fields (s : State) (image : List Byte) :
    (s.noticed image).cfg = settingsOf image ∧ (s.noticed image).classifier = ⟨rulesOf image, some (digestOf image)⟩ ∧
    (s.noticed image).pos = { PositionUnit.reset with
      cur := startPair s.retention (settingsOf image).nominal
      watchdog := if s.pins.beltRun then some ((settingsOf image).encoderMs * 1000000) else none } ∧
    (s.noticed image).gate = { GateUnit.reset with
      state := .idle, windowClear := true, windowTimer := some ((settingsOf image).windowMs * 1000000) } ∧
    (s.noticed image).ctl = s.ctl.toRun s.pins ∧ (s.noticed image).pins = s.pins ∧
    (s.noticed image).pending = s.pending ∧ (s.noticed image).retention = s.retention ∧
    (s.noticed image).ej = s.ej ∧ (s.noticed image).bins = s.bins ∧ (s.noticed image).port = s.port ∧
    (s.noticed image).ltu = { s.ltu with
      peers := [⟨s.ctl.address, (settingsOf image).gateDist, digestOf image, true, false, 0⟩] } :=
  ⟨rfl, rfl, rfl, rfl, rfl, rfl, rfl, rfl, rfl, rfl, rfl, rfl⟩

theorem begun_fields (s : State) (image : List Byte) :
    (s.begun image).cfg = settingsOf image ∧ (s.begun image).classifier = ⟨rulesOf image, some (digestOf image)⟩ ∧
    (s.begun image).pos = (s.noticed image).pos ∧ (s.begun image).gate = (s.noticed image).gate ∧
    (s.begun image).ctl = s.ctl.toRun s.pins ∧ (s.begun image).pins = s.pins ∧ (s.begun image).pending = s.pending ∧
    (s.begun image).port.link = .joining ∧ (s.begun image).port.relayDrive = true ∧
    (s.begun image).port.joinTimer = some 200000000 ∧ (s.begun image).ltu.joinRetry = 1 ∧
    (s.begun image).ltu.peers = [⟨s.ctl.address, (settingsOf image).gateDist, digestOf image, true, false, 0⟩] ∧
    (s.begun image).bins.asked = true := by
  obtain ⟨hcfg, hcls, -, -, hctl, hpins, hpend, -, -, -, -, hltu⟩ := noticed_fields s image
  refine ⟨?_, ?_, ?_, ?_, ?_, ?_, ?_, ?_, ?_, ?_, ?_, ?_, rfl⟩ <;>
    simp [State.begun, join_link, hcfg, hcls, hctl, hpins, hpend, hltu]

/-- R109, R110: the bins after the start. -/
theorem begun_bin (s : State) (image : List Byte) (b : BinNo) :
    let u := (s.noticed image).cfg.configuredBins.foldl State.startEjector (s.noticed image)
    u.binCfg b = (settingsOf image).bins.get b ∧ u.pins = s.pins ∧ u.retention = s.retention ∧
    (s.begun image).bins.recs.get b =
      (if ((settingsOf image).bins.get b).configured then u.startRecord b else u.bins.recs.get b) ∧
    (s.begun image).retention.bins.get b = (if ((settingsOf image).bins.get b).configured
      then ⟨(u.startRecord b).fill, (u.startRecord b).unverified, ((settingsOf image).bins.get b).cls⟩
      else ⟨0, false, 0⟩) ∧
    (((settingsOf image).bins.get b).configured = true →
      ((s.begun image).bins.present.get b).settled = s.pins.binPresent.get b) := by
  intro u
  obtain ⟨hcfg, -, -, -, -, hpins, -, hret, -⟩ := noticed_fields s image
  have hconf : u.binCfg b = (settingsOf image).bins.get b := by simp [u, State.binCfg, hcfg]
  have hupins : u.pins = s.pins := by simp [u, hpins]
  have huret : u.retention = s.retention := by simp [u, hret]
  have hjoin : u.join.binCfg b = u.binCfg b := by simp [State.binCfg]
  have hstart : u.join.startRecord b = u.startRecord b := by simp [State.startRecord, hjoin]
  obtain ⟨hrec, hbinret, hpres⟩ := startBins_at u.join b
  rw [hjoin, hconf, hstart] at hrec hbinret
  rw [hjoin, hconf] at hpres
  have hbegun : s.begun image = u.join.startBins := rfl
  rw [hbegun]
  refine ⟨hconf, hupins, huret, ?_, hbinret, fun h => ?_⟩
  · simpa using hrec
  · simpa [hupins] using hpres h

/-- R179, R184: what an open chain leaves as it was. -/
theorem runNotice_fields (s : State) (image : List Byte) :
    (s.runNotice image).cfg = (s.begun image).cfg ∧ (s.runNotice image).classifier = (s.begun image).classifier ∧
    (s.runNotice image).pos = (s.begun image).pos ∧ (s.runNotice image).gate = (s.begun image).gate ∧
    (s.runNotice image).port.link = (s.begun image).port.link ∧
    (s.runNotice image).port.relayDrive = (s.begun image).port.relayDrive ∧
    (s.runNotice image).port.joinTimer = (s.begun image).port.joinTimer ∧
    (s.runNotice image).ltu.joinRetry = (s.begun image).ltu.joinRetry ∧
    (s.runNotice image).ltu.peers = (s.begun image).ltu.peers ∧ (s.runNotice image).bins.asked = true ∧
    ∀ b, PendingFalls b (s.begun image) (s.runNotice image) := by
  have hasked : (s.begun image).bins.asked = true := rfl
  rw [runNotice_eq]
  split
  · exact ⟨rfl, rfl, rfl, rfl, rfl, rfl, rfl, rfl, rfl, hasked, fun b => .of_same rfl rfl rfl⟩
  · exact ⟨by simp, by simp, by simp, by simp, by simp, by simp, by simp, by simp, by simp, rfl,
      fun b => pendingFalls_enterSafe b _⟩

/-- R179, R184: the Mode Controller after the run notice. -/
theorem runNotice_ctl (s : State) (image : List Byte) :
    (s.runNotice image).ctl = if s.pins.chainClosed then s.ctl.toRun s.pins
      else { s.ctl.toRun s.pins with mode := .safe, heldMode := some .run, chainClosed := false, chainTimer := none } := by
  obtain ⟨-, -, -, -, hctl, hpins, -⟩ := begun_fields s image
  rw [runNotice_eq, hpins]
  split
  · exact hctl
  · unfold State.enterSafe
    dsimp only
    split <;> simp [State.askBinstate, hctl, ModeController.toRun]

/-- With ejectors and records at their reset values, the arm-home check alone decides the ejectors, and the joining ROLL waits
in the own queue of a station whose transmitter was silent. -/
theorem runNotice_fresh {s : State} (image : List Byte) (hej : s.ej = Quad.all Ejector.reset)
    (hrecs : s.bins.recs = BinUnit.reset.recs) :
    (∀ b, let faulty := ((settingsOf image).bins.get b).configured && ((settingsOf image).bins.get b).homeFitted &&
        !s.pins.armHome.get b
      (s.runNotice image).ej.get b = (if faulty then { Ejector.reset with state := .fault } else Ejector.reset) ∧
      ((s.runNotice image).bins.recs.get b).faultShown = faulty) ∧
    (s.port.tx = .silent → s.ltu.ownQueue = [] →
      (s.runNotice image).port.tx = .gap ∧ (s.runNotice image).port.txTimer = some 8000 ∧
      (s.runNotice image).ltu.ownQueue = [⟨0x11, 0, s.ctl.address, 32, encodeRoll ⟨true, (settingsOf image).gateDist,
        (settingsOf image).configuredBins.length, 0x31, 0x16, 0x02, digestOf image, (settingsOf image).exitX⟩ .run⟩]) := by
  obtain ⟨hcfg, hcls, -, -, hctl, hpins, -, -, hnej, hnbins, hnport, hnltu⟩ := noticed_fields s image
  have hsched : ∀ b, ((s.noticed image).ej.get b).schedule = [] := by simp [hnej, hej, Ejector.reset]
  obtain ⟨hport, hltu, huSched⟩ := startEjectors_of_empty (s.noticed image).cfg.configuredBins _ hsched
  have hat := fun b => startEjectors_at (s.noticed image) b (by simp [hnej, hej])
    (by simp [hnbins, hrecs, BinUnit.reset])
  generalize hu : (s.noticed image).cfg.configuredBins.foldl State.startEjector (s.noticed image) = u
    at hport hltu huSched hat
  have hbegun : s.begun image = u.join.startBins := by rw [State.begun, hu]
  have hbej : (s.begun image).ej = u.ej := by simp [hbegun]
  have hstill : ∀ b, ((s.begun image).ej.get b).state ≠ .pulsing := by
    intro b
    rw [hbej, (hat b).1]
    split <;> simp [Ejector.reset]
  have hsafe : (s.runNotice image).ej = u.ej ∧ (s.runNotice image).port = u.join.port ∧
      (s.runNotice image).ltu = u.join.ltu := by
    have hparts : (s.begun image).ej = u.ej ∧ (s.begun image).port = u.join.port ∧ (s.begun image).ltu = u.join.ltu := by
      simp [hbegun]
    rw [runNotice_eq]
    split
    · exact hparts
    · rw [State.enterSafe, cutAll_of_still hstill, cancelAll_of_empty .safety (fun b => by rw [hbej]; exact huSched b),
        ite_self]
      exact hparts
  obtain ⟨hrej, hrport, hrltu⟩ := hsafe
  refine ⟨fun b => ?_, fun htx hown => ?_⟩
  · obtain ⟨hatej, hatrec⟩ := hat b
    have hfaulty : (s.noticed image).binCfg b = (settingsOf image).bins.get b := rfl
    rw [hfaulty, hpins] at hatej hatrec
    refine ⟨by rw [hrej, hatej], ?_⟩
    obtain ⟨-, -, -, -, -, -, -, -, -, -, hfalls⟩ := runNotice_fields s image
    obtain ⟨hconf, -, -, hrec, -⟩ := begun_bin s image b
    rw [hu] at hconf hrec
    rw [(hfalls b).faultShown, hrec, ← hatrec]
    split
    · exact (startRecord_fields u b).2.1
    · rfl
  · obtain ⟨htx', htimer, hqueue⟩ := join_silent (s := u) (by rw [hport, hnport, htx]) (by rw [hltu, hnltu, hown])
    rw [hrport, hrltu]
    refine ⟨htx', htimer, ?_⟩
    rw [hqueue, ← hu]
    simp [State.rollFrame, State.buildFrame, State.ownRoll, hcfg, hcls, hctl, ModeController.toRun, Config.kindRoll,
      Config.hopBudget, Config.familyCode, Config.modelCode, Config.revisionCode]

/-! ### The end of the event -/

/-- R111, R162: the BINSTATE asked for joins the queue, behind a transmitter that is not FREE. -/
theorem finish_queues {s : State} (hasked : s.bins.asked = true) (hrun : s.running = true)
    (hlink : s.port.link ≠ .bypassed) (hnone : s.ltu.holds Config.kindBinstate = false)
    (hroom : s.ltu.ownQueue.length < 8) (htx : s.port.tx ≠ .free) :
    s.finish.port = s.port ∧ s.finish.ltu.ownQueue = s.ltu.ownQueue ++ [s.finish.binstateFrame] := by
  have hframe : s.finish.binstateFrame = s.binstateFrame := by
    have hreport : s.finish.binReport = s.binReport := by
      funext b
      simp [State.binReport, State.binCfg]
    simp [State.binstateFrame, State.buildFrame, hreport]
  rw [hframe]
  simp only [State.finish, State.answerAsked, hasked, hrun, if_true, showLamp_frame, State.requestBinstate]
  rw [enqueueOwn_waits (by simpa using hlink) (.inr (by simpa using hnone)) (by simpa using hroom) (by simpa using htx)]
  exact ⟨rfl, rfl⟩

/-- Settles O8: the read's end is the run notice, and the event ends with the first BINSTATE. -/
theorem passedChecksEnterRun : Obligations.PassedChecksEnterRun := by
  intro s dt memory image home hmode hphase hrecord hcheck set
  have hreading : (s.elapse dt).reading = true := (reading_iff _).mpr ⟨by simpa using hmode, by simpa using hphase⟩
  generalize hr : ((s.elapse dt).setPins { (s.elapse dt).pins with armHome := home }).setCtl
    { (s.elapse dt).ctl with image := image } = r
  have heff : effect (.configReadComplete dt memory home) (s.elapse dt) = r.runNotice image := by
    subst hr
    simp only [effect, State.completeRead, hreading, if_true, hrecord, State.readDone, hcheck]
    rfl
  have hrctl : r.ctl = { (s.elapse dt).ctl with image := image } := by subst hr; rfl
  have hrpins : r.pins = { s.pins with armHome := home } := by subst hr; rfl
  have hrest : r.retention = s.retention ∧ r.pending = s.pending ∧ r.port.tx = s.port.tx ∧
      r.ltu.ownQueue = s.ltu.ownQueue ∧ r.bins.recs = s.bins.recs ∧ r.ej = s.ej.map (Ejector.elapse dt) := by
    subst hr
    exact ⟨rfl, rfl, by simp, by simp, by simp, rfl⟩
  obtain ⟨hrret, hrpend, hrtx, hrown, hrrecs, hrej⟩ := hrest
  obtain ⟨hcfg, hcls, hpos, hgate, hlink, hrelay, htimer, hretry, hpeers, hasked, hfalls⟩ := runNotice_fields r image
  obtain ⟨bcfg, bcls, bpos, bgate, -, -, -, blink, brelay, btimer, bretry, bpeers, -⟩ := begun_fields r image
  obtain ⟨-, -, npos, ngate, -⟩ := noticed_fields r image
  have hctl := runNotice_ctl r image
  have hrunning : (r.runNotice image).running = true := by
    rw [State.running, hctl]
    split <;> rfl
  have haddress : r.ctl.address = s.ctl.address := by simp [hrctl]
  refine ⟨_, exec_answers heff, ?clock, fun h => ?run, fun h => ?safe, ?_, ?_, ?_, ?_, ?_, ?_,
    finish_period hasked hrunning, ?_, fun b h => ?missing, fun b h => ?bin, fun hej hrecs => ?fresh⟩
  case clock =>
    simp only [finish_ctl, hctl]
    split <;> simp_all [ModeController.toRun, Timer.start, Config.statusMs]
  case run => simp [hctl, hrpins, h, ModeController.toRun]
  case safe => simp [hctl, hrpins, h]
  case missing =>
    obtain ⟨-, -, -, -, hret, -⟩ := begun_bin r image b
    simp [(hfalls b).retention, hret, h, set]
  case bin =>
    obtain ⟨hconf, hupins, huret, hrec, hret, hpres⟩ := begun_bin r image b
    generalize (r.noticed image).cfg.configuredBins.foldl State.startEjector (r.noticed image) = u at *
    obtain ⟨hpending, -, habsent, hpresent⟩ := startRecord_fields u b
    have hfall := hfalls b
    have hlevels : r.pins.binPresent.get b = s.pins.binPresent.get b ∧ r.pins.binFull.get b = s.pins.binFull.get b := by
      simp [hrpins]
    obtain ⟨hlevel, hfullLevel⟩ := hlevels
    rw [if_pos h] at hrec hret
    rw [hupins, hlevel] at habsent hpresent
    rw [hfullLevel] at hpresent
    rw [huret, hrret, hconf] at hpresent
    simp only [finish_bins, finish_frame]
    rw [hfall.state, hfall.fill, hfall.unverified, hfall.present, hfall.retention, hpres h, hret, hlevel, hrec]
    have hnone : ((r.runNotice image).bins.recs.get b).pending = 0 := by
      have hle := hfall.pending
      rw [hrec, hpending] at hle
      omega
    exact ⟨hnone, rfl, rfl, habsent, hpresent⟩
  case fresh =>
    have hrfresh : r.ej = Quad.all Ejector.reset := by
      rw [hrej, hej]
      rfl
    obtain ⟨hat, hqueue⟩ := runNotice_fresh image hrfresh (hrrecs.trans hrecs)
    refine ⟨fun b => ⟨fun ⟨hconf, hfitted, haway⟩ => ?_, fun hfine => ?_⟩, fun htx hown => ?_⟩
    · obtain ⟨hbej, hbrec⟩ := hat b
      simp only [set] at hconf hfitted
      rw [hrpins, hconf, hfitted, haway] at hbej hbrec
      simpa using And.intro hbej hbrec
    · obtain ⟨hbej, hbrec⟩ := hat b
      have hnofault : (((settingsOf image).bins.get b).configured && ((settingsOf image).bins.get b).homeFitted &&
          !r.pins.armHome.get b) = false := by
        simp only [set] at hfine
        rw [hrpins]
        obtain h | h | h := hfine <;> simp [h]
      rw [hnofault] at hbej hbrec
      simpa using And.intro hbej hbrec
    · obtain ⟨htx', htimer', hqueue'⟩ := hqueue (hrtx.trans htx) (hrown.trans hown)
      obtain ⟨hport, hltu⟩ := finish_queues hasked hrunning (by simp [hlink, blink])
        (by rw [LoopTraffic.holds, hqueue']; rfl) (by rw [hqueue', List.length_singleton]; omega) (by simp [htx'])
      rw [hport, hltu, hqueue', haddress]
      exact ⟨htx', htimer', rfl⟩
  · simp [hcfg, bcfg, set]
  · simp [hcls, bcls]
  · simp [hpos, bpos, npos, hrret, hrpins, set]
  · simp [hgate, bgate, ngate, set]
  · simp [hlink, blink, hrelay, brelay, htimer, btimer, hretry, bretry]
  · simp [hpeers, bpeers, haddress, set]
  · simp [hrpend]

end Sys2Proof.Machine

/-! The coil window (R31, R34 to R38): the gate after a close and the detections it finishes, each said once. -/

namespace Sys2Proof.Machine

/-! ### What a closing window does to the gate -/

/-- R35: the fault state, and what it leaves of the gate. -/
theorem faultUpdate_fields (g : GateUnit) (floor count : Nat) :
    (g.faultUpdate floor count).state = g.state ∧ (g.faultUpdate floor count).beams = g.beams ∧
    (g.faultUpdate floor count).windowClear = g.windowClear ∧ (g.faultUpdate floor count).baseline = g.baseline ∧
    (g.faultUpdate floor count).tally = g.tally ∧ (g.faultUpdate floor count).baseSum = g.baseSum ∧
    (g.faultUpdate floor count).detection = g.detection ∧ (g.faultUpdate floor count).completing = g.completing ∧
    (g.faultUpdate floor count).overRange = decide (count = 65535) := by
  unfold GateUnit.faultUpdate
  split <;> exact ⟨rfl, rfl, rfl, rfl, rfl, rfl, rfl, rfl, rfl⟩

theorem faultUpdate_low {g : GateUnit} {floor count : Nat} (h : count < floor) :
    (g.faultUpdate floor count).lowRun = min 2 (g.lowRun + 1) ∧ (g.faultUpdate floor count).goodRun = 0 ∧
    (g.faultUpdate floor count).coilFault = (g.coilFault || decide (1 ≤ g.lowRun)) := by
  have hrun : (min 2 (g.lowRun + 1) == 2) = decide (1 ≤ g.lowRun) := by
    rw [Bool.eq_iff_iff, beq_iff_eq, decide_eq_true_iff]
    omega
  simp [GateUnit.faultUpdate, h, hrun]

theorem faultUpdate_good {g : GateUnit} {floor count : Nat} (h : floor ≤ count) :
    (g.faultUpdate floor count).goodRun = min 4 (g.goodRun + 1) ∧ (g.faultUpdate floor count).lowRun = 0 ∧
    (g.faultUpdate floor count).coilFault = (g.coilFault && decide (g.goodRun < 3)) := by
  have hrun : (min 4 (g.goodRun + 1) != 4) = decide (g.goodRun < 3) := by
    rw [Bool.eq_iff_iff, bne_iff_ne, decide_eq_true_iff]
    omega
  simp [GateUnit.faultUpdate, Nat.not_lt.mpr h, hrun]

/-- R36: the baseline follows, and nothing else of the gate does. -/
theorem follow_fields (g : GateUnit) (count : Nat) :
    (g.follow count).state = g.state ∧ (g.follow count).beams = g.beams ∧ (g.follow count).lowRun = g.lowRun ∧
    (g.follow count).goodRun = g.goodRun ∧ (g.follow count).coilFault = g.coilFault ∧
    (g.follow count).overRange = g.overRange ∧ (g.follow count).detection = g.detection ∧
    (g.follow count).completing = g.completing := by
  unfold GateUnit.follow
  (repeat' split) <;> exact ⟨rfl, rfl, rfl, rfl, rfl, rfl, rfl, rfl⟩

theorem usable_iff (c : Settings) (count : Nat) : c.usable count = true ↔ c.coilFloor ≤ count ∧ count < 65535 := by
  exact decide_eq_true_iff

/-- R37: the deviation of a usable window without a coil fault. -/
theorem deviation_present {g : GateUnit} {usable : Bool} {count b : Nat} (hbase : g.baseline = some b)
    (husable : usable = true) (hfault : g.coilFault = false) :
    g.deviation usable count = some (min 4095 (max (count - b) (b - count))) := by
  simp [GateUnit.deviation, hbase, husable, hfault]

theorem deviation_absent {g : GateUnit} {usable : Bool} (count : Nat)
    (h : g.baseline = none ∨ usable = false ∨ g.coilFault = true) : g.deviation usable count = none := by
  unfold GateUnit.deviation
  split
  · rfl
  · next b hb =>
    obtain h | h | h := h
    · simp [hb] at h
    · simp [h]
    · simp [h]

theorem largerMetal_none (a : Option Nat) : largerMetal a none = a := by cases a <;> rfl

theorem largerMetal_some (a : Option Nat) (x : Nat) : largerMetal a (some x) = some (max (a.getD 0) x) := by
  cases a <;> simp [largerMetal]

/-- R34 to R38: the fault state after the window. -/
def GateUnit.judged (g : GateUnit) (c : Settings) : GateUnit := g.faultUpdate c.coilFloor g.windowCount

/-- R37: the deviation of the window. -/
def GateUnit.windowDeviation (g : GateUnit) (c : Settings) : Option Nat :=
  (g.judged c).deviation (c.usable g.windowCount) g.windowCount

/-- R36: the gate with the baseline after the window. -/
def GateUnit.followed (g : GateUnit) (c : Settings) (opening : Bool) : GateUnit :=
  if (g.judged c).windowClear && !opening && c.usable g.windowCount then (g.judged c).follow g.windowCount else g.judged c

/-- R34: the gate as the next window opens. -/
def GateUnit.reopened (g : GateUnit) (c : Settings) (opening : Bool) : GateUnit :=
  ({ g.followed c opening with
    detection := (g.followed c opening).detection.map (OpenRecord.gatherMetal (g.windowDeviation c))
    completing := [] } : GateUnit).nextWindow c.windowMs

/-- R31, R38: the detections the window finishes, the oldest first. -/
def GateUnit.finishing (g : GateUnit) (c : Settings) (opening : Bool) : List Detection :=
  (g.followed c opening).completing.map
    (fun d => (d.gatherMetal (g.windowDeviation c)).finished (g.followed c opening).coilFault)

theorem closeWindow_eq (s : State) (close : WindowClose) :
    s.closeWindow close = ((s.gate.finishing s.cfg close.opening).foldl State.handOver
      ((s.setGate (s.gate.reopened s.cfg close.opening)).setBetween close.between)).setBetween [] := rfl

theorem closeWindow_gate (s : State) (close : WindowClose) :
    (s.closeWindow close).gate = s.gate.reopened s.cfg close.opening := by
  rw [closeWindow_eq, (setBetween_frame _ _).2.2.2.1, foldl_keeps State.gate State.handOver (by simp)]
  rfl

/-- What stays of the gate through the baseline's step. -/
theorem followed_fields (g : GateUnit) (c : Settings) (opening : Bool) :
    (g.followed c opening).state = g.state ∧ (g.followed c opening).beams = g.beams ∧
    (g.followed c opening).lowRun = (g.judged c).lowRun ∧ (g.followed c opening).goodRun = (g.judged c).goodRun ∧
    (g.followed c opening).coilFault = (g.judged c).coilFault ∧
    (g.followed c opening).overRange = decide (g.windowCount = 65535) ∧
    (g.followed c opening).detection = g.detection ∧ (g.followed c opening).completing = g.completing := by
  obtain ⟨hstate, hbeams, -, -, -, -, hdet, hcompl, hover⟩ := faultUpdate_fields g c.coilFloor g.windowCount
  unfold GateUnit.followed
  split
  · obtain ⟨fstate, fbeams, flow, fgood, ffault, fover, fdet, fcompl⟩ := follow_fields (g.judged c) g.windowCount
    exact ⟨fstate.trans hstate, fbeams.trans hbeams, flow, fgood, ffault, fover.trans hover, fdet.trans hdet,
      fcompl.trans hcompl⟩
  · exact ⟨hstate, hbeams, rfl, rfl, rfl, hover, hdet, hcompl⟩

theorem reopened_fields (g : GateUnit) (c : Settings) (opening : Bool) :
    (g.reopened c opening).windowCount = 0 ∧ (g.reopened c opening).windowTimer = some (c.windowMs * 1000000) ∧
    (g.reopened c opening).completing = [] ∧ (g.reopened c opening).state = g.state ∧
    (g.reopened c opening).beams = g.beams ∧ (g.reopened c opening).overRange = decide (g.windowCount = 65535) ∧
    (g.reopened c opening).lowRun = (g.judged c).lowRun ∧ (g.reopened c opening).goodRun = (g.judged c).goodRun ∧
    (g.reopened c opening).coilFault = (g.judged c).coilFault ∧
    (g.reopened c opening).baseline = (g.followed c opening).baseline ∧
    (g.reopened c opening).tally = (g.followed c opening).tally ∧
    (g.reopened c opening).baseSum = (g.followed c opening).baseSum ∧
    (g.reopened c opening).detection = g.detection.map (OpenRecord.gatherMetal (g.windowDeviation c)) := by
  obtain ⟨hstate, hbeams, hlow, hgood, hfault, hover, hdet, -⟩ := followed_fields g c opening
  exact ⟨rfl, rfl, rfl, hstate, hbeams, hover, hlow, hgood, hfault, rfl, rfl, rfl, by rw [← hdet]; rfl⟩

/-- R36: the baseline in a window that acts on it. -/
theorem followed_acting {g : GateUnit} {c : Settings} (hclear : g.windowClear = true) (hlow : c.coilFloor ≤ g.windowCount)
    (hhigh : g.windowCount < 65535) : g.followed c false = (g.judged c).follow g.windowCount := by
  obtain ⟨-, -, hjudged, -⟩ := faultUpdate_fields g c.coilFloor g.windowCount
  rw [GateUnit.followed, if_pos]
  simp [GateUnit.judged, hjudged, hclear, (usable_iff c g.windowCount).mpr ⟨hlow, hhigh⟩]

theorem followed_idle {g : GateUnit} {c : Settings} {opening : Bool} (h : g.windowClear = false ∨ opening = true ∨
    g.windowCount < c.coilFloor ∨ g.windowCount = 65535) : g.followed c opening = g.judged c := by
  obtain ⟨-, -, hjudged, -⟩ := faultUpdate_fields g c.coilFloor g.windowCount
  refine if_neg fun hacts => ?_
  simp only [GateUnit.judged, hjudged, Bool.and_eq_true, Bool.not_eq_true', usable_iff] at hacts
  obtain ⟨⟨hclear, hopening⟩, hlow, hhigh⟩ := hacts
  obtain h | h | h | h := h
  · simp [hclear] at h
  · simp [hopening] at h
  · omega
  · omega

/-- R37, R38: what the window brings to a held metal value. -/
theorem largerMetal_windowDeviation (g : GateUnit) (c : Settings) (metal : Option Nat) :
    (∀ b, g.baseline = some b → c.coilFloor ≤ g.windowCount → g.windowCount < 65535 → (g.judged c).coilFault = false →
      largerMetal metal (g.windowDeviation c) =
        some (max (metal.getD 0) (min 4095 (max (g.windowCount - b) (b - g.windowCount))))) ∧
    (g.baseline = none ∨ g.windowCount < c.coilFloor ∨ g.windowCount = 65535 ∨ (g.judged c).coilFault = true →
      largerMetal metal (g.windowDeviation c) = metal) := by
  have hbase : (g.judged c).baseline = g.baseline := by
    obtain ⟨-, -, -, hbase, -⟩ := faultUpdate_fields g c.coilFloor g.windowCount
    exact hbase
  refine ⟨fun b hb hlow hhigh hfault => ?_, fun h => ?_⟩
  · rw [GateUnit.windowDeviation, deviation_present (hbase.trans hb) ((usable_iff c g.windowCount).mpr ⟨hlow, hhigh⟩) hfault,
      largerMetal_some]
  · rw [GateUnit.windowDeviation, deviation_absent, largerMetal_none]
    have hunusable : g.windowCount < c.coilFloor ∨ g.windowCount = 65535 → c.usable g.windowCount = false := by
      rw [Bool.eq_false_iff, ne_eq, usable_iff]
      omega
    obtain h | h | h | h := h
    · exact .inl (hbase.trans h)
    · exact .inr (.inl (hunusable (.inl h)))
    · exact .inr (.inl (hunusable (.inr h)))
    · exact .inr (.inr h)

/-- Settles O22. -/
theorem coilWindowCountsAndCloses : Obligations.CoilWindowCountsAndCloses := by
  refine ⟨fun s dt hrun hquiet => ?edge, fun s dt close hrun hout => ?close⟩
  case edge =>
    have heff : effect (.oscillatorEdge dt) (s.elapse dt) =
        (s.elapse dt).setGate { (s.elapse dt).gate with windowCount := min 65535 (s.gate.windowCount + 1) } := by
      simp [effect, State.oscillatorEdge, hrun, Config.counterMax]
    refine ⟨_, exec_answers heff, by simp, SameBut.finish_quiet ?_ (elapse_asked_of dt hquiet)⟩
    simp [sameBut_iff]
  case close =>
    have hdue : Timer.due (s.elapse dt).gate.windowTimer = true := by
      rw [elapse_window s dt hrun]
      exact hout.due
    have heff : effect (.coilWindowClose dt close) (s.elapse dt) = (s.elapse dt).closeWindow close := by
      simp [effect, State.windowEnds, hrun, hdue]
    have hcfg : (s.elapse dt).cfg = s.cfg := rfl
    generalize hg : (s.elapse dt).gate = g
    have hvalues : g.windowCount = s.gate.windowCount ∧ g.lowRun = s.gate.lowRun ∧ g.goodRun = s.gate.goodRun ∧
        g.coilFault = s.gate.coilFault ∧ g.windowClear = s.gate.windowClear ∧ g.baseline = s.gate.baseline ∧
        g.tally = s.gate.tally ∧ g.baseSum = s.gate.baseSum ∧ g.state = s.gate.state ∧ g.beams = s.gate.beams ∧
        g.detection = s.gate.detection ∧ g.completing = s.gate.completing := by
      subst hg
      simp
    obtain ⟨hcount, hlow, hgood, hfault, hclear, hbase, htally, hsum, hstate, hbeams, hdet, hcompl⟩ := hvalues
    have hgate : ((s.elapse dt).closeWindow close).finish.gate = g.reopened s.cfg close.opening := by
      simp [closeWindow_gate, hg]
    obtain ⟨rcount, rtimer, rcompl, rstate, rbeams, rover, rlow, rgood, rfault, rbase, rtally, rsum, rdet⟩ :=
      reopened_fields g s.cfg close.opening
    obtain ⟨-, -, -, jbase, jtally, jsum, -⟩ := faultUpdate_fields g s.cfg.coilFloor g.windowCount
    rw [← hcount, ← hlow, ← hgood, ← hfault, ← hclear, ← hbase, ← htally, ← hsum, ← hstate, ← hbeams, ← hdet, ← hcompl]
    refine ⟨_, exec_answers heff, ?_⟩
    rw [hgate, rcount, rtimer, rcompl, rstate, rbeams, rover, rlow, rgood, rfault, rbase, rtally, rsum, rdet]
    refine ⟨rfl, rfl, rfl, rfl, rfl, rfl, faultUpdate_low, faultUpdate_good, fun hc ho hl hh => ?acts, fun h => ?idle,
      fun r hr => ?detection, ⟨(s.elapse dt).setGate (g.reopened s.cfg close.opening), g.finishing s.cfg close.opening,
        by simp [sameBut_iff], ?_, ?_, fun k d hd => ?finished⟩, ?_⟩
    case acts =>
      rw [ho, followed_acting hc hl hh]
      refine ⟨fun b hb => ?_, fun hb ht => ?_, fun hb ht => ?_⟩
      · have hjb : (g.judged s.cfg).baseline = some b := jbase.trans hb
        refine ⟨fun hf => ?_, fun hf => ?_⟩ <;> simp [GateUnit.follow, hjb, hf]
      · have hjb : (g.judged s.cfg).baseline = none := jbase.trans hb
        have hjt : (g.judged s.cfg).tally = 7 := jtally.trans ht
        have hjs : (g.judged s.cfg).baseSum = g.baseSum := jsum
        simp [GateUnit.follow, hjb, hjt, hjs]
      · have hjb : (g.judged s.cfg).baseline = none := jbase.trans hb
        have hjt : (g.judged s.cfg).tally = g.tally := jtally
        have hjs : (g.judged s.cfg).baseSum = g.baseSum := jsum
        have hne : g.tally ≠ 7 := by omega
        simp [GateUnit.follow, hjb, hjt, hjs, hne]
    case idle =>
      rw [followed_idle h]
      exact ⟨jbase, jtally, jsum⟩
    case detection =>
      obtain ⟨hpresent, habsent⟩ := largerMetal_windowDeviation g s.cfg r.metal
      rw [hr]
      refine ⟨fun b hb hl hh hf => ?_, fun h => ?_⟩
      · simp [OpenRecord.gatherMetal, hpresent b hb hl hh hf]
      · simp [OpenRecord.gatherMetal, habsent h]
    case finished =>
      obtain ⟨hpresent, habsent⟩ := largerMetal_windowDeviation g s.cfg d.metal
      obtain ⟨-, -, -, -, ffault, -, -, fcompl⟩ := followed_fields g s.cfg close.opening
      have hk : (g.finishing s.cfg close.opening)[k]? =
          some ((d.gatherMetal (g.windowDeviation s.cfg)).finished (g.judged s.cfg).coilFault) := by
        simp [GateUnit.finishing, fcompl, ffault, hd]
      rw [hk]
      cases hf : (g.judged s.cfg).coilFault with
      | true => exact ⟨none, rfl, fun _ => rfl, fun h => absurd h (by simp)⟩
      | false =>
        refine ⟨_, rfl, fun h => absurd h (by simp), fun _ => ⟨fun b hb hl hh => hpresent b hb hl hh hf, fun h => habsent ?_⟩⟩
        tauto
    · rw [closeWindow_eq, hg, hcfg]
    · obtain ⟨-, -, -, -, -, -, -, fcompl⟩ := followed_fields g s.cfg close.opening
      simp [GateUnit.finishing, fcompl]
    · refine SameBut.finish (u := (s.elapse dt).closeWindow close) ?_ (by simp [binstateParts])
      simp [sameBut_iff]

end Sys2Proof.Machine

/-! The curtain (R23 to R33): the beams, the masked sample, and the open detection record. -/

namespace Sys2Proof.Machine

/-! ### The beams of a gate step (R24, R25) -/

theorem updateBeams_getElem? (adv : Nat) (beams : List Beam) (levels : List BeamLevel) :
    (updateBeams adv beams levels).length = beams.length ∧
    ∀ (k : Nat) (b : Beam) (l : BeamLevel), beams[k]? = some b → levels[k]? = some l →
      (updateBeams adv beams levels)[k]? = some (b.update l adv) := by
  induction beams generalizing levels with
  | nil => cases levels <;> simp [updateBeams]
  | cons b bs ih =>
    cases levels with
    | nil => simp [updateBeams]
    | cons l ls =>
      obtain ⟨hlength, hat⟩ := ih ls
      refine ⟨by simp [updateBeams, hlength], fun k x y hx hy => ?_⟩
      cases k with
      | zero =>
        simp only [List.getElem?_cons_zero, Option.some.injEq] at hx hy
        subst hx hy
        rfl
      | succ k =>
        simp only [List.getElem?_cons_succ] at hx hy
        exact hat k x y hx hy

/-- R31: the gate after a close, the queue apart. -/
theorem closing_gate (s : State) (d : Detection) (after : GateState) :
    (s.closing d after).gate.state = after ∧ (s.closing d after).gate.detection = none ∧
    (s.closing d after).gate.completing.getLast? = some d ∧ (s.closing d after).gate.beams = s.gate.beams := by
  unfold State.closing
  dsimp only
  split
  · split <;> simp
  · simp

/-- R31, R32: the close that finds the queue full finishes the oldest detection first. -/
theorem closing_full {s : State} {oldest : Detection} {rest : List Detection} (d : Detection) (after : GateState)
    (hqueue : s.gate.completing = oldest :: rest) (hfull : 4 ≤ s.gate.completing.length) :
    s.closing d after =
      ((s.setGate { s.gate with state := after, detection := none, completing := rest }).handOver oldest).setGate
        { s.gate with state := after, detection := none, completing := rest ++ [d] } := by
  have hmax : Config.completingMax ≤ s.gate.completing.length := hfull
  simp only [State.closing, setGate_gate, hmax, if_true]
  split
  · next first others h =>
    rw [hqueue, List.cons.injEq] at h
    obtain ⟨rfl, rfl⟩ := h
    simp only [handOver_frame, setGate_gate]
    rfl
  · next h => simp [hqueue] at h

theorem clearSample_beams (s : State) (pos : Nat) (r : OpenRecord) (start : Nat) :
    (s.clearSample pos r start).gate.beams = s.gate.beams := by
  unfold State.clearSample State.cutDetection
  dsimp only
  (repeat' split) <;> simp [closing_gate]

theorem detect_beams (s : State) (pos : Nat) (c : CurtainSample) : (s.detect pos c).gate.beams = s.gate.beams := by
  unfold State.detect State.openSample State.cutDetection
  (repeat' split) <;> simp [closing_gate, clearSample_beams, State.openedNotice]

/-- R33, R62: a discontinuity discards the held detections, with their abandonment notices. -/
theorem discontinuity_eq (s : State) (c : CurtainSample) :
    s.discontinuity c = (s.setTrk { s.trk with
      link := (s.gate.detection.toList.map (fun r => r.lead) ++ s.gate.completing.map (fun d => d.lead)).foldl
        (fun l lead => l.erase lead) s.trk.link }).setGate
      { s.gate with detection := none, completing := [], state := if c.occupied then .waitClear else .idle } := by
  unfold State.discontinuity
  dsimp only
  rw [releaseLinks]

/-- R23: the beams that a step event's sample is masked with. -/
def State.stepBeams (s : State) (ev : StepEvent) : List Beam :=
  match ev.adv with
  | some a => updateBeams a s.gate.beams s.pins.curtain
  | none => s.gate.beams

/-- R23, R33, R36: the gate's work at a step event. -/
theorem gateStep_eq {s : State} (ev : StepEvent) (h : s.gate.state ≠ .held) :
    s.gateStep ev =
      let s1 := s.setGate { s.gate with beams := s.stepBeams ev }
      let c := maskedSample 1 (s.stepBeams ev) s.pins.curtain
      let s2 := if ev.adv = none then s1.discontinuity c else s1.detect ev.pos c
      s2.setGate s2.gate.noteWindow := by
  rw [State.gateStep, if_neg h]
  unfold State.stepBeams
  cases ev.adv <;> rfl

theorem gateStep_beams {s : State} (ev : StepEvent) (h : s.gate.state ≠ .held) :
    (s.gateStep ev).gate.beams = s.stepBeams ev := by
  rw [gateStep_eq ev h]
  dsimp only
  split
  · simp [discontinuity_eq, GateUnit.noteWindow]
  · simp [detect_beams, GateUnit.noteWindow]

/-- Settles O23. -/
theorem beamsMaskAndUnmask : Obligations.BeamsMaskAndUnmask := by
  refine ⟨fun b level adv => ?beam, fun s ev => ?step⟩
  case beam =>
    refine ⟨fun hm hl => ?_, fun hm hl hrun => ?_, fun hm hl hrun => ?_, fun hm hl => ?_, fun hm hl hrun => ?_,
      fun hm hl hrun => ?_⟩
    · simp [Beam.update, hm, hl]
    · simp [Beam.update, hm, hl, Nat.not_le.mpr hrun]
    · simp [Beam.update, hm, hl, hrun]
    · simp [Beam.update, hm, hl]
    · simp [Beam.update, hm, hl, Nat.not_le.mpr hrun]
    · simp [Beam.update, hm, hl, hrun]
  case step =>
    refine ⟨fun hheld => ?_, fun hadv => ?_, fun a hstate hadv _ => ?_⟩
    · rw [State.gateStep, if_pos hheld]
    · by_cases hheld : s.gate.state = .held
      · rw [State.gateStep, if_pos hheld]
      · rw [gateStep_beams ev hheld, State.stepBeams, hadv]
    · have hbeams : (s.gateStep ev).gate.beams = updateBeams a s.gate.beams s.pins.curtain := by
        rw [gateStep_beams ev hstate, State.stepBeams, hadv]
      rw [hbeams]
      exact updateBeams_getElem? a s.gate.beams s.pins.curtain

/-! ### The masked sample (R23, R27) -/

/-- R23: an unmasked beam that is not clear. -/
def seenBeam (x : Beam × BeamLevel) : Bool := !x.1.masked && decide (x.2 ≠ .clear)

theorem seenBeam_iff (x : Beam × BeamLevel) : seenBeam x = true ↔ x.1.masked = false ∧ x.2 ≠ .clear := by
  simp [seenBeam]

/-- R23, R27: a beam that is seen is counted, by its number; any other is passed over. -/
theorem maskedSample_cons (n : Nat) (b : Beam) (l : BeamLevel) (bs : List Beam) (ls : List BeamLevel) :
    maskedSample n (b :: bs) (l :: ls) =
      let rest := maskedSample (n + 1) bs ls
      if seenBeam (b, l) then ⟨rest.notClear + 1, rest.dim + (if l = .dim then 1 else 0), max n rest.high⟩ else rest := by
  simp only [maskedSample]
  by_cases hseen : seenBeam (b, l) = true
  · obtain ⟨hmasked, hlevel⟩ := (seenBeam_iff _).mp hseen
    simp only at hmasked hlevel
    simp [hseen, hmasked, hlevel]
  · rw [if_neg hseen, if_pos]
    by_contra hnot
    refine hseen ((seenBeam_iff _).mpr ?_)
    simpa using hnot

/-- R23, R27: what the masked sample counts, the first beam being number `n`. -/
theorem maskedSample_counts (n : Nat) (beams : List Beam) (levels : List BeamLevel) :
    let c := maskedSample n beams levels
    let seen := (beams.zip levels).filter seenBeam
    c.notClear = seen.length ∧ c.dim = (seen.filter (fun x => decide (x.2 = .dim))).length ∧ (seen = [] → c.high = 0) ∧
    (seen ≠ [] → n ≤ c.high ∧ ∃ x, (beams.zip levels)[c.high - n]? = some x ∧ seenBeam x = true) ∧
    ∀ k x, (beams.zip levels)[k]? = some x → seenBeam x = true → k + n ≤ c.high := by
  induction beams generalizing n levels with
  | nil => simp [maskedSample]
  | cons b bs ih =>
    cases levels with
    | nil => simp [maskedSample]
    | cons l ls =>
      obtain ⟨hcount, hdim, hnone, hsome, hbound⟩ := ih (n + 1) ls
      rw [maskedSample_cons]
      dsimp only
      generalize maskedSample (n + 1) bs ls = rest at *
      generalize hseenRest : (bs.zip ls).filter seenBeam = seen at *
      by_cases hseen : seenBeam (b, l) = true
      · simp only [hseen, if_true, List.zip_cons_cons, List.filter_cons, hseenRest]
        refine ⟨by simp [hcount], ?_, by simp, fun _ => ⟨by omega, ?_⟩, fun k x hx hs => ?_⟩
        · by_cases hl : l = .dim <;> simp [hl, hdim]
        · by_cases hrest : seen = []
          · exact ⟨(b, l), by simp [hnone hrest], hseen⟩
          · obtain ⟨hle, x, hx, hs⟩ := hsome hrest
            refine ⟨x, ?_, hs⟩
            rw [show max n rest.high - n = (rest.high - (n + 1)) + 1 by omega, List.getElem?_cons_succ, hx]
        · cases k with
          | zero => omega
          | succ k =>
            have := hbound k x (by simpa using hx) hs
            omega
      · simp only [hseen, List.zip_cons_cons, List.filter_cons, hseenRest, Bool.false_eq_true, if_false]
        refine ⟨hcount, hdim, hnone, fun h => ?_, fun k x hx hs => ?_⟩
        · obtain ⟨hle, x, hx, hs⟩ := hsome h
          refine ⟨by omega, x, ?_, hs⟩
          rw [show rest.high - n = (rest.high - (n + 1)) + 1 by omega, List.getElem?_cons_succ, hx]
        · cases k with
          | zero =>
            simp only [List.getElem?_cons_zero, Option.some.injEq] at hx
            exact absurd hs (by rw [← hx]; exact hseen)
          | succ k =>
            have := hbound k x (by simpa using hx) hs
            omega

/-! ### Detections (R26 to R33) -/

theorem detect_opened {s : State} {r : OpenRecord} (pos : Nat) (c : CurtainSample) (hstate : s.gate.state = .opened)
    (hdet : s.gate.detection = some r) : s.detect pos c = s.openSample pos r c := by
  simp [State.detect, hstate, hdet]

/-- R28, R29: an occupied sample goes on with the detection, or cuts it. -/
theorem openSample_occupied {s : State} {c : CurtainSample} (pos : Nat) (r : OpenRecord) (h : c.occupied = true) :
    s.openSample pos r c = if s.cfg.lMax ≤ posSub s.cfg.span pos r.lead then s.cutDetection (r.gather c) .waitClear
      else s.setGate { s.gate with detection := some (r.gather c) } := by
  simp [State.openSample, h]

theorem openSample_clear {s : State} {c : CurtainSample} (pos : Nat) (r : OpenRecord) (h : c.occupied = false) :
    s.openSample pos r c = s.clearSample pos r (r.clearStart.getD pos) := by
  simp [State.openSample, h]

/-- Settles O24: by the gate state, then by the sample. -/
theorem samplesOpenAndCloseDetections : Obligations.SamplesOpenAndCloseDetections := by
  refine ⟨fun s pos c hstate => ?idle, fun s pos c hstate => ?waitClear, fun s pos c r hstate hdet => ?opened,
    fun s c => ?discontinuity, fun s d after h => closing_short s d after h, fun beams levels _ => ?sample,
    fun s ev hstate => ?step, fun s d oldest rest after hqueue hfull => ?full⟩
  case idle =>
    refine ⟨fun hc => ?_, fun hc => by simp [State.detect, hstate, hc]⟩
    simp [State.detect, hstate, hc, State.openedNotice, openedRecord]
  case waitClear => exact ⟨fun hc => by simp [State.detect, hstate, hc], fun hc => by simp [State.detect, hstate, hc]⟩
  case opened =>
    intro past start dim cut
    rw [detect_opened pos c hstate hdet]
    refine ⟨fun hc hroom => ?_, fun hc hlong => ?_, fun hc hlong => ?_, fun hc hroom hgap => ?_, fun hc hroom hgap => ?_⟩
    · rw [openSample_occupied pos r hc, if_neg (Nat.not_le.mpr hroom)]
      exact ⟨hstate, rfl⟩
    · rw [openSample_occupied pos r hc, if_pos hlong]
      obtain ⟨hafter, hnone, hlast, -⟩ := closing_gate s { cut with height := max r.height c.high, dim := dim } .waitClear
      exact ⟨hafter, hnone, hlast, rfl⟩
    · rw [openSample_clear pos r hc, State.clearSample, if_pos hlong]
      obtain ⟨hafter, hnone, hlast, -⟩ := closing_gate s cut .idle
      exact ⟨hafter, hnone, hlast, rfl⟩
    · rw [openSample_clear pos r hc, State.clearSample, if_neg (Nat.not_le.mpr hroom), if_pos hgap]
      obtain ⟨hafter, hnone, hlast, -⟩ :=
        closing_gate s { cut with trailing := start, length := past start, overlong := false } .idle
      exact ⟨hafter, hnone, hlast, rfl⟩
    · rw [openSample_clear pos r hc, State.clearSample, if_neg (Nat.not_le.mpr hroom), if_neg (Nat.not_le.mpr hgap)]
  case discontinuity =>
    rw [discontinuity_eq]
    exact ⟨rfl, rfl, rfl, by simp [sameBut_iff], rfl⟩
  case sample =>
    intro c seen
    obtain ⟨hcount, hdim, hnone, hsome, hbound⟩ := maskedSample_counts 1 beams levels
    refine ⟨hcount, hdim, ?_, hnone, fun h => ?_, fun k b l hx hb hl => ?_⟩
    · rw [CurtainSample.occupied, bne_iff_ne, hcount, ne_eq, List.length_eq_zero_iff]
      exact Iff.rfl
    · obtain ⟨hle, x, hx, hs⟩ := hsome h
      obtain ⟨hmasked, hlevel⟩ := (seenBeam_iff x).mp hs
      exact ⟨x.1, x.2, hx, hmasked, hlevel, hle⟩
    · exact hbound k (b, l) hx ((seenBeam_iff _).mpr ⟨hb, hl⟩)
  case step =>
    intro s1 c s2
    have hnote : ∀ g : GateUnit, g.noteWindow = { g with windowClear := g.windowClear && decide (g.state = .idle) } := by
      intro g
      simp [GateUnit.noteWindow, beq_eq_decide]
    rw [← hnote]
    simp only [s2, c, s1, gateStep_beams ev hstate]
    exact gateStep_eq ev hstate
  case full =>
    refine ⟨s.setGate { s.gate with state := after, detection := none, completing := rest }, rfl, by simp [sameBut_iff], ?_⟩
    exact closing_full d after hqueue hfull

end Sys2Proof.Machine

/-! The classifier's answer (R45, R46, R48), and what the candidates make of a detection (R66 to R70). -/

namespace Sys2Proof.Machine

/-! ### The classifier -/

theorem metalHolds_iff (range : Option (Nat × Nat)) (metal : Option Nat) : metalHolds range metal = true ↔
    range = none ∨ ∃ lo hi m, range = some (lo, hi) ∧ metal = some m ∧ lo ≤ m ∧ m ≤ hi := by
  cases range with
  | none => simp [metalHolds]
  | some bounds =>
    obtain ⟨lo, hi⟩ := bounds
    cases metal <;> simp [metalHolds]

theorem classRule_matches_iff (r : ClassRule) (q : ClassRequest) : r.matches q = true ↔
    (r.lenLo ≤ q.length ∧ q.length ≤ r.lenHi) ∧ (r.heightLo ≤ q.height ∧ q.height ≤ r.heightHi) ∧
    (r.dimLo ≤ q.dim ∧ q.dim ≤ r.dimHi) ∧
    (r.metal = none ∨ ∃ lo hi m, r.metal = some (lo, hi) ∧ q.metal = some m ∧ lo ≤ m ∧ m ≤ hi) := by
  simp only [ClassRule.matches, Bool.and_eq_true, decide_eq_true_eq, metalHolds_iff, and_assoc]

/-- Settles O25. -/
theorem classCodeByFirstMatch : Obligations.ClassCodeByFirstMatch := by
  refine ⟨classRule_matches_iff, fun table q => ⟨fun hf => ?_, fun hf ho => ?_, fun hf ho => ⟨?matched, ?unmatched⟩⟩⟩
  · simp [classify, hf]
  · simp [classify, hf, ho]
  case matched =>
    rintro before r after rfl hbefore hr
    have hfind : (before ++ r :: after).find? (fun r => r.matches q) = some r :=
      List.find?_eq_some_iff_append.mpr ⟨hr, before, after, rfl, fun x hx => by simp [hbefore x hx]⟩
    simp [classify, hf, ho, hfind]
  case unmatched =>
    intro hnone
    have hfind : table.find? (fun r => r.matches q) = none := by simpa using hnone
    have hclass : classify table q = trustedClass q.basis := by simp [classify, hf, ho, hfind]
    rw [hclass]
    refine ⟨fun c hb _ => by rw [hb]; rfl, fun hb => ?_⟩
    obtain hb | ⟨c, hb⟩ | hb := hb <;> rw [hb] <;> rfl

/-! ### Appending ids to a merged list (R70) -/

/-- One id more, on a list and the note of a discarded one. -/
def appendId (own : TicketId) (acc : List TicketId × Bool) (i : TicketId) : List TicketId × Bool :=
  if i = own ∨ acc.1.contains i = true then acc else if 3 ≤ acc.1.length then (acc.1, true) else (acc.1 ++ [i], acc.2)

theorem appendIds_eq_foldl (own : TicketId) (l ids : List TicketId) :
    appendIds own l ids = ids.foldl (appendId own) (l, false) := rfl

/-- The note of a discarded id stays, and changes nothing else. -/
theorem foldl_appendId_noted (own : TicketId) (l ids : List TicketId) :
    ids.foldl (appendId own) (l, true) = ((ids.foldl (appendId own) (l, false)).1, true) := by
  induction ids generalizing l with
  | nil => rfl
  | cons i ids ih =>
    rw [List.foldl_cons, List.foldl_cons]
    by_cases hheld : i = own ∨ l.contains i = true
    · have hstep : ∀ b, appendId own (l, b) i = (l, b) := fun b => if_pos hheld
      rw [hstep, hstep]
      exact ih l
    · by_cases hfull : 3 ≤ l.length
      · have hstep : ∀ b, appendId own (l, b) i = (l, true) := fun b => (if_neg hheld).trans (if_pos hfull)
        rw [hstep, hstep, ih]
      · have hstep : ∀ b, appendId own (l, b) i = (l ++ [i], b) := fun b => (if_neg hheld).trans (if_neg hfull)
        rw [hstep, hstep]
        exact ih (l ++ [i])

theorem appendIds_held {own i : TicketId} {l : List TicketId} (ids : List TicketId) (h : i = own ∨ i ∈ l) :
    appendIds own l (i :: ids) = appendIds own l ids := by
  have hstep : appendId own (l, false) i = (l, false) := if_pos (by simpa using h)
  rw [appendIds_eq_foldl, List.foldl_cons, hstep, appendIds_eq_foldl]

theorem appendIds_room {own i : TicketId} {l : List TicketId} (ids : List TicketId) (hown : i ≠ own) (hnew : i ∉ l)
    (hroom : l.length < 3) : appendIds own l (i :: ids) = appendIds own (l ++ [i]) ids := by
  have hstep : appendId own (l, false) i = (l ++ [i], false) := by
    simp [appendId, hown, hnew, Nat.not_le.mpr hroom]
  rw [appendIds_eq_foldl, List.foldl_cons, hstep, appendIds_eq_foldl]

theorem appendIds_full {own i : TicketId} {l : List TicketId} (ids : List TicketId) (hown : i ≠ own) (hnew : i ∉ l)
    (hfull : 3 ≤ l.length) : appendIds own l (i :: ids) = ((appendIds own l ids).1, true) := by
  have hstep : appendId own (l, false) i = (l, true) := by
    simp [appendId, hown, hnew, hfull]
  rw [appendIds_eq_foldl, List.foldl_cons, hstep, appendIds_eq_foldl, foldl_appendId_noted]

/-! ### The nearest candidate (R69) -/

/-- The nearest candidate, the earlier on a tie. -/
theorem nearestEntry_first (span lead : Nat) (first : ExpectEntry) (rest : List ExpectEntry) :
    let far := fun x : ExpectEntry => (signedDiff span x.ticket.lead lead).natAbs
    let k := nearestEntry span lead first rest
    ∃ before after, first :: rest = before ++ k :: after ∧ (∀ x ∈ before, far k < far x) ∧ ∀ x ∈ after, far k ≤ far x := by
  intro far k
  induction rest using List.reverseRecOn with
  | nil => exact ⟨[], [], rfl, by simp, by simp⟩
  | append_singleton rest e ih =>
    obtain ⟨before, after, hsplit, hbefore, hafter⟩ := ih
    have hk : k = if far e < far (nearestEntry span lead first rest) then e else nearestEntry span lead first rest := by
      simp only [k, nearestEntry, List.foldl_append, List.foldl_cons, List.foldl_nil]
      rfl
    by_cases hnearer : far e < far (nearestEntry span lead first rest)
    · rw [if_pos hnearer] at hk
      refine ⟨first :: rest, [], by simp [hk], fun x hx => ?_, by simp⟩
      obtain ⟨-, hbest⟩ := nearestEntry_spec span lead rest first
      rw [hk]
      exact Nat.lt_of_lt_of_le hnearer (hbest x hx)
    · rw [if_neg hnearer] at hk
      rw [hk]
      refine ⟨before, after ++ [e], ?_, hbefore, fun x hx => ?_⟩
      · rw [← List.cons_append, hsplit]
        simp
      · obtain hx | hx := List.mem_append.mp hx
        · exact hafter x hx
        · rw [List.mem_singleton.mp hx]
          exact Nat.not_lt.mp hnearer

/-- The others of a list whose ids differ are the members around the one. -/
theorem filter_id_ne {before after : List ExpectEntry} {k : ExpectEntry}
    (hnodup : ((before ++ k :: after).map (fun x => x.ticket.id)).Nodup) :
    (before ++ k :: after).filter (fun x => decide (x.ticket.id ≠ k.ticket.id)) = before ++ after := by
  rw [List.map_append, List.map_cons, List.nodup_middle, List.nodup_cons] at hnodup
  obtain ⟨hnew, -⟩ := hnodup
  have hdiffers : ∀ l : List ExpectEntry, (∀ x ∈ l, x ∈ before ++ after) →
      l.filter (fun x => decide (x.ticket.id ≠ k.ticket.id)) = l := by
    intro l hl
    refine List.filter_eq_self.mpr fun x hx => decide_eq_true fun hid => hnew ?_
    rw [← List.map_append]
    exact List.mem_map.mpr ⟨x, hl x hx, hid⟩
  rw [List.filter_append, List.filter_cons_of_neg (by simp), hdiffers before (by simp_all), hdiffers after (by simp_all)]

/-- R69: the missed count of a merge is the largest. -/
theorem foldl_max_missed (l : List Ticket) (m : Nat) :
    l.foldl (fun m t => max m t.missed) m = (l.map (fun t => t.missed)).foldl max m := by
  rw [List.foldl_map]

/-- Settles O26. -/
theorem placementByCandidates : Obligations.PlacementByCandidates := by
  refine ⟨fun span d => ⟨rfl, rfl, rfl, rfl, rfl, rfl, rfl, rfl, rfl, rfl, rfl, rfl, rfl, rfl⟩,
    fun span d e => ⟨rfl, rfl, rfl, rfl, rfl⟩, fun span d e f rest => ?merge, fun own l => rfl,
    fun own i l ids => ⟨appendIds_held ids, appendIds_room ids, appendIds_full ids⟩, fun a b => ⟨rfl, rfl, rfl, rfl⟩⟩
  case merge =>
    intro p far
    obtain ⟨before, after, hsplit, hbefore, hafter⟩ := nearestEntry_first span d.lead e (f :: rest)
    refine ⟨rfl, rfl, rfl, before, nearestEntry span d.lead e (f :: rest), after, hsplit, hbefore, hafter, ?_⟩
    intro others ids
    have hothers : others = (e :: f :: rest).filter
        (fun x => x.ticket.id != (nearestEntry span d.lead e (f :: rest)).ticket.id) :=
      List.filter_congr fun x _ => by rw [Bool.eq_iff_iff, decide_eq_true_iff, bne_iff_ne]
    have hids : ids = (others.map (fun x => x.ticket)).flatMap (fun t => t.id :: t.merged) := by
      rw [List.flatMap_map]
    have hmissed : p.ticket.missed = (others.map (fun x => x.ticket.missed)).foldl max
        (nearestEntry span d.lead e (f :: rest)).ticket.missed := by
      rw [show others.map (fun x => x.ticket.missed) = (others.map (fun x => x.ticket)).map (fun t => t.missed) by
        rw [List.map_map]; rfl, ← foldl_max_missed, hothers]
      rfl
    obtain ⟨hkeeper, hbound, hreached⟩ :=
      foldl_max_spec (others.map (fun x => x.ticket.missed)) (nearestEntry span d.lead e (f :: rest)).ticket.missed
    rw [← hmissed] at hkeeper hbound hreached
    refine ⟨fun hnodup => ?_, ⟨hkeeper, fun x hx => hbound _ (List.mem_map_of_mem hx)⟩, ?_, ?_, ?_⟩
    · rw [hsplit] at hnodup
      simp only [others, hsplit]
      exact filter_id_ne hnodup
    · refine hreached.imp id fun hx => ?_
      obtain ⟨x, hx, heq⟩ := List.mem_map.mp hx
      exact ⟨x, hx, heq.symm⟩
    · rw [hids, hothers]
      rfl
    · rw [hids, hothers]
      rfl

end Sys2Proof.Machine

/-! The fate of an arriving ticket (R50, R54 to R60, R82 to R84). -/

namespace Sys2Proof.Machine

/-! ### The content check (R54) -/

theorem mergedOk_iff (own : TicketId) (l : List TicketId) : mergedOk own l = true ↔
    l.length ≤ 3 ∧ (∀ i ∈ l, 1 ≤ i.origin ∧ i.origin ≤ 16) ∧ l.Nodup ∧ own ∉ l := by
  simp [mergedOk, and_assoc]

theorem contentOk_iff (k : Ticket) : k.contentOk = true ↔
    (1 ≤ k.id.origin ∧ k.id.origin ≤ 16) ∧ (1 ≤ k.length ∧ k.length ≤ 1023) ∧ k.cls ≤ 13 ∧
    (1 ≤ k.height ∧ k.height ≤ 12) ∧ k.dim ≤ 16 ∧ (∀ m, k.metal = some m → m ≤ 4095) ∧
    k.merged.length ≤ 3 ∧ (∀ i ∈ k.merged, 1 ≤ i.origin ∧ i.origin ≤ 16) ∧ k.merged.Nodup ∧ k.id ∉ k.merged := by
  cases hmetal : k.metal <;>
    simp only [Ticket.contentOk, hmetal, Bool.and_eq_true, decide_eq_true_eq, mergedOk_iff, and_assoc, true_and,
      Option.some.injEq, forall_eq', reduceCtorEq, false_imp_iff, implies_true]

theorem trusts_iff (s : State) (origin : Nat) :
    s.trusts origin = true ↔ ∃ p, s.peer origin = some p ∧ p.digestEqual = true := by
  unfold State.trusts
  cases s.peer origin <;> simp

/-! ### The arriving ticket, by where it is held and how far it lies (R57 to R60) -/

theorem insertExpect_inserts (s : State) (e : ExpectEntry) (l : List ExpectEntry) :
    s.insertExpect e l = s.setExpect (s.insertExpect e l).trk.expect ∧
    InsertedByDist (fun x => s.dist x.ticket.lead) e l (s.insertExpect e l).trk.expect :=
  ⟨rfl, insertByDist_place _ e l⟩

/-- R57 to R60: the tests of a ticket, in order. -/
theorem testTicket_cases (s : State) (e : ExpectEntry) :
    let d := s.dist e.ticket.lead
    let heldTransit := s.trk.transit.any (fun x => x.ticket.id == e.ticket.id)
    let heldExpect := s.trk.expect.any (fun x => x.ticket.id == e.ticket.id)
    (heldTransit = true ∨ 2048 < d → s.testTicket e = s.count .untracked) ∧
    (heldTransit = false → d ≤ 2048 → heldExpect = true → d < -(s.cfg.matchW : Int) →
      s.testTicket e = s.count .untracked) ∧
    (heldTransit = false → d ≤ 2048 → heldExpect = true → -(s.cfg.matchW : Int) ≤ d →
      s.testTicket e = s.insertExpect e (s.trk.expect.filter (fun x => x.ticket.id != e.ticket.id))) ∧
    (heldTransit = false → d ≤ 2048 → heldExpect = false → -(s.cfg.matchW : Int) ≤ d →
      s.testTicket e = s.admitTicket e) ∧
    (heldTransit = false → heldExpect = false → d < -(s.cfg.matchW : Int) → s.testTicket e = s.lateTicket e.ticket) := by
  intro d heldTransit heldExpect
  have hunfold : s.testTicket e =
      if heldTransit then s.count .untracked else if 2048 < d then s.count .untracked
      else if heldExpect then
        if decide (-(s.cfg.matchW : Int) ≤ d) then
          s.insertExpect e (s.trk.expect.filter (fun x => x.ticket.id != e.ticket.id))
        else s.count .untracked
      else if decide (-(s.cfg.matchW : Int) ≤ d) then s.admitTicket e else s.lateTicket e.ticket := rfl
  rw [hunfold]
  refine ⟨fun h => ?_, fun ht hd he hw => ?_, fun ht hd he hw => ?_, fun ht hd he hw => ?_, fun ht he hw => ?_⟩
  · by_cases ht : heldTransit = true
    · rw [if_pos ht]
    · rw [if_neg ht, if_pos (h.resolve_left ht)]
  · simp [ht, he, Int.not_lt.mpr hd, Int.not_le.mpr hw]
  · simp [ht, he, Int.not_lt.mpr hd, hw]
  · simp [ht, he, Int.not_lt.mpr hd, hw]
  · have hd : ¬ 2048 < d := by omega
    simp [ht, he, hd, Int.not_le.mpr hw]

/-- R59: a full list keeps the nearest. -/
theorem admitTicket_cases (s : State) (e : ExpectEntry) :
    (s.trk.expect.length < 32 → s.admitTicket e = s.insertExpect e s.trk.expect) ∧
    (32 ≤ s.trk.expect.length → ∀ far, s.trk.expect.getLast? = some far →
      (s.dist far.ticket.lead ≤ s.dist e.ticket.lead → s.admitTicket e = s.count .untracked) ∧
      (s.dist e.ticket.lead < s.dist far.ticket.lead →
        s.admitTicket e = (s.insertExpect e s.trk.expect.dropLast).count .untracked)) := by
  have hmax : Config.expectMax = 32 := rfl
  refine ⟨fun h => if_pos (by omega), fun h far hfar => ⟨fun hd => ?_, fun hd => ?_⟩⟩
  · rw [State.admitTicket, if_neg (by omega), hfar]
    exact if_neg (Int.not_lt.mpr hd)
  · rw [State.admitTicket, if_neg (by omega), hfar]
    exact if_pos hd

/-- Replacing the one entry of an id keeps the length. -/
theorem length_filter_replaced {l : List ExpectEntry} {i : TicketId} (hnodup : (l.map (fun e => e.ticket.id)).Nodup)
    (hheld : l.any (fun e => e.ticket.id == i) = true) :
    (l.filter (fun e => e.ticket.id != i)).length + 1 = l.length := by
  induction l with
  | nil => simp at hheld
  | cons e l ih =>
    rw [List.map_cons, List.nodup_cons] at hnodup
    obtain ⟨hnew, hrest⟩ := hnodup
    by_cases he : e.ticket.id = i
    · have hothers : l.filter (fun x => x.ticket.id != i) = l := by
        refine List.filter_eq_self.mpr fun x hx => bne_iff_ne.mpr fun hid => hnew ?_
        rw [he, ← hid]
        exact List.mem_map_of_mem hx
      rw [List.filter_cons_of_neg (by simp [he]), hothers, List.length_cons]
    · have hheldRest : l.any (fun x => x.ticket.id == i) = true := by simpa [he] using hheld
      rw [List.filter_cons_of_pos (by simp [he]), List.length_cons, ih hrest hheldRest, List.length_cons]

/-! ### Late tickets (R60, R82 to R84) -/

/-- R84: one id appended, and whether it was discarded. -/
theorem appendIds_one (own i : TicketId) (l : List TicketId) : appendIds own l [i] =
    (if i = own ∨ i ∈ l ∨ 3 ≤ l.length then l else l ++ [i], decide (i ≠ own ∧ i ∉ l ∧ 3 ≤ l.length)) := by
  have hnil : ∀ l, appendIds own l [] = (l, false) := fun _ => rfl
  by_cases hheld : i = own ∨ i ∈ l
  · rw [appendIds_held [] hheld, hnil, if_pos (by tauto), decide_eq_false (by tauto)]
  · obtain ⟨hown, hmem⟩ := not_or.mp hheld
    by_cases hfull : 3 ≤ l.length
    · rw [appendIds_full [] hown hmem hfull, hnil, if_pos (by tauto), decide_eq_true ⟨hown, hmem, hfull⟩]
    · rw [appendIds_room [] hown hmem (by omega), hnil, if_neg (by tauto), decide_eq_false (by tauto)]

/-- R83, R84: the adoption of a late ticket, field by field. -/
theorem adoptedEntry_eq (t : Ticket) (x : TransitEntry) : adoptedEntry t x =
    { x with
      localStray := false
      ticket := { x.ticket with
        id := t.id, passes := t.passes, lastReason := t.lastReason,
        missed := min 3 (t.missed + x.ticket.missed)
        merged := if x.ticket.id = t.id ∨ x.ticket.id ∈ t.merged ∨ 3 ≤ t.merged.length then t.merged
          else t.merged ++ [x.ticket.id]
        cls := if x.ticket.id ≠ t.id ∧ x.ticket.id ∉ t.merged ∧ 3 ≤ t.merged.length then 0 else x.ticket.cls } } := by
  simp [adoptedEntry, appendIds_one]

theorem lateTicket_cases (s : State) (t : Ticket) :
    (s.dist t.lead < -(s.cfg.exitX : Int) → s.lateTicket t = s.count .lateDropped) ∧
    (-(s.cfg.exitX : Int) ≤ s.dist t.lead →
      (s.adopter t = none → s.lateTicket t = s.count .lateDropped) ∧
      ∀ e, s.adopter t = some e → s.lateTicket t = (s.updateEntry e.ref (adoptedEntry t)).count .adopted) := by
  refine ⟨fun h => if_pos h, fun h => ⟨fun hnone => ?_, fun e he => ?_⟩⟩
  · rw [State.lateTicket, if_neg (Int.not_lt.mpr h), hnone]
  · rw [State.lateTicket, if_neg (Int.not_lt.mpr h), he]

/-- Settles O27: the checks in their order, then the window and the lists. -/
theorem ticketArrivalFate : Obligations.TicketArrivalFate := by
  refine ⟨contentOk_iff, fun s origin payload => ?_⟩
  intro k d new byDist r heldTransit heldExpect near w
  have hr : r = if !k.contentOk then s.count .untracked else if s.pos.cond = .unsynced then s.count .untracked
      else s.testTicket new := rfl
  refine ⟨trusts_iff s origin, fun hk => by simp [hr, hk], fun hk hc => by simp [hr, hk, hc], fun hk hc => ?_⟩
  have hr : r = s.testTicket new := by simp [hr, hk, hc]
  obtain ⟨huntracked, houtside, hreplace, hadmit, hlate⟩ := testTicket_cases s new
  obtain ⟨hroom, hfull⟩ := admitTicket_cases s new
  obtain ⟨hgone, hwithin⟩ := lateTicket_cases s new.ticket
  have hfilter : s.trk.expect.filter (fun e => decide (e.ticket.id ≠ k.id)) =
      s.trk.expect.filter (fun e => e.ticket.id != k.id) :=
    List.filter_congr fun x _ => by rw [Bool.eq_iff_iff, decide_eq_true_iff, bne_iff_ne]
  rw [hfilter]
  refine ⟨fun h => hr.trans (huntracked h), fun ht hd he hw => hr.trans (houtside ht hd he hw),
    fun ht hd he hw => ?replaced, fun ht hd he hw hl => ?admitted, fun ht he hw hd hl far hfar => ⟨fun hfd => ?_, fun hfd => ?_⟩,
    fun ht he hw hx => ?_, fun ht he hw hx => ⟨fun hnone => ?_, fun before e after hsplit hstray hnear hfirst => ?adopted⟩⟩
  case replaced =>
    rw [hr, hreplace ht hd he hw]
    obtain ⟨hset, hplace⟩ := insertExpect_inserts s new (s.trk.expect.filter (fun e => e.ticket.id != k.id))
    refine ⟨hset, hplace, fun hnodup => ?_⟩
    rw [← length_filter_replaced hnodup he]
    exact length_insertByDist _ _ _
  case admitted =>
    rw [hr, hadmit ht hd he hw, hroom hl]
    exact insertExpect_inserts s new s.trk.expect
  case adopted =>
    have hfind : s.adopter new.ticket = some e := by
      refine List.find?_eq_some_iff_append.mpr ⟨?_, before, after, hsplit, fun x hx => ?_⟩
      · rw [hstray, Bool.true_and]
        exact hnear
      · cases hxs : x.localStray with
        | false => rfl
        | true =>
          rw [Bool.true_and, Bool.not_eq_true']
          exact hfirst x hx hxs
    obtain ⟨-, hadopt⟩ := hwithin hx
    rw [hr, hlate ht he hw, hadopt e hfind]
    have hentry : ∀ x : TransitEntry, adoptedEntry new.ticket x = _ := fun x => adoptedEntry_eq new.ticket x
    rw [State.updateEntry]
    simp only [hentry]
    rfl
  · rw [hr, hadmit ht hd he hw]
    exact (hfull hl far hfar).1 hfd
  · obtain ⟨-, hnearer⟩ := hfull hl far hfar
    rw [hr, hadmit ht hd he hw, hnearer hfd]
    obtain ⟨hset, hplace⟩ := insertExpect_inserts s new s.trk.expect.dropLast
    exact ⟨by rw [(count_frame _ _).2.2.2.2.2.1, ← hset], hplace⟩
  · rw [hr, hlate ht he hw, hgone hx]
  · have hfind : s.adopter new.ticket = none := by
      refine List.find?_eq_none.mpr fun x hx' => ?_
      cases hxs : x.localStray with
      | false => simp
      | true =>
        rw [Bool.true_and]
        exact ne_true_of_eq_false (hnone x hx' hxs)
    obtain ⟨hdrop, -⟩ := hwithin hx
    rw [hr, hlate ht he hw, hdrop hfind]

end Sys2Proof.Machine

/-! Expiry, and the placement of a detection that is handed over (R53, R62 to R66, R71, R72, R78, R79, R87). -/

namespace Sys2Proof.Machine

/-! ### Expiry (R62 to R64) -/

theorem loseEntries_expect (s : State) (gone : ExpectEntry → Bool) :
    (s.loseEntries gone).trk.expect = s.trk.expect.filter (fun e => !gone e) := by
  simp [State.loseEntries, State.setExpect]

theorem length_filter_not {α : Type} (p : α → Bool) (l : List α) :
    (l.filter p).length = l.length - (l.filter (fun x => !p x)).length := by
  have hsum := List.length_eq_length_filter_add (l := l) p
  omega

/-- R63, R64: the entries that go are counted as lost. -/
theorem loseEntries_lost {s : State} (gone : ExpectEntry → Bool) (h : s.counters.get .lost ≤ 65535) :
    (s.loseEntries gone).counters.get .lost =
      min 65535 (s.counters.get .lost + (s.trk.expect.length - (s.loseEntries gone).trk.expect.length)) := by
  rw [loseEntries_expect, ← length_filter_not, State.loseEntries]
  exact get_countMany _ _ _ h

theorem not_pastExpiry_iff (s : State) (e : ExpectEntry) :
    s.pastExpiry e = false ↔ -(s.cfg.matchW : Int) ≤ s.dist e.ticket.lead := by
  simp [State.pastExpiry]

theorem protectedEntry_iff (s : State) (e : ExpectEntry) : s.protectedEntry e = true ↔
    ∃ oldest rest, s.trk.link = oldest :: rest ∧
      s.dist (posSub s.cfg.span oldest s.cfg.matchW) ≤ s.dist e.ticket.lead := by
  unfold State.protectedEntry
  split
  · next h => simp [h]
  · next oldest rest h => simp [h]

/-- R64: what stays after a placement. -/
theorem mem_expireAfterPlacement (s : State) (e : ExpectEntry) : e ∈ s.expireAfterPlacement.trk.expect ↔
    e ∈ s.trk.expect ∧ (-(s.cfg.matchW : Int) ≤ s.dist e.ticket.lead ∨
      ∃ oldest rest, s.trk.link = oldest :: rest ∧
        s.dist (posSub s.cfg.span oldest s.cfg.matchW) ≤ s.dist e.ticket.lead) := by
  rw [State.expireAfterPlacement, loseEntries_expect, List.mem_filter, ← not_pastExpiry_iff, ← protectedEntry_iff]
  cases s.pastExpiry e <;> cases s.protectedEntry e <;> simp

/-! ### The serial of a stray (R53) -/

/-- The serial tried after `j` others. -/
def triedSerial (n j : Nat) : Nat := if j = 0 then n else (n + j) % 4096

/-- The first 81 serials tried differ. -/
theorem triedSerial_inj {n i j : Nat} (hi : i ≤ 80) (hj : j ≤ 80) (h : triedSerial n i = triedSerial n j) : i = j := by
  unfold triedSerial at h
  split at h <;> split at h <;> omega

/-- The ids held in the two lists. -/
def TrackingUnit.heldIds (u : TrackingUnit) : List TicketId :=
  u.expect.map (fun e => e.ticket.id) ++ u.transit.map (fun e => e.ticket.id)

theorem mem_heldIds (u : TrackingUnit) (i : TicketId) : i ∈ u.heldIds ↔ u.holdsId i = true := by
  simp [TrackingUnit.heldIds, holdsId_iff]

/-- With at most 80 entries held, one of the first 81 serials is free. -/
theorem exists_free_serial {u : TrackingUnit} (address n : Nat) (h : u.expect.length + u.transit.length ≤ 80) :
    ∃ j ≤ 80, u.holdsId ⟨address, triedSerial n j⟩ = false := by
  by_contra hnone
  simp only [not_exists, not_and, Bool.not_eq_false] at hnone
  have hsub : ((List.range 81).map (fun j => (⟨address, triedSerial n j⟩ : TicketId))) ⊆ u.heldIds := by
    intro i hi
    obtain ⟨j, hj, rfl⟩ := List.mem_map.mp hi
    exact (mem_heldIds _ _).mpr (hnone j (by simp at hj; omega))
  have hnodup : ((List.range 81).map (fun j => (⟨address, triedSerial n j⟩ : TicketId))).Nodup := by
    refine List.Nodup.map_on (fun i hi j hj hij => ?_) List.nodup_range
    simp only [List.mem_range] at hi hj
    exact triedSerial_inj (by omega) (by omega) (TicketId.mk.inj hij).2
  have hle := (List.subperm_of_subset hnodup hsub).length_le
  simp only [List.length_map, List.length_range, TrackingUnit.heldIds, List.length_append] at hle
  omega

/-! ### Candidates (R66) -/

theorem posSub_lt {span : Nat} (h : 0 < span) (a b : Nat) : posSub span a b < span := Nat.mod_lt _ h

/-- Going forward by the difference comes to the position. -/
theorem add_posSub {span : Nat} (h : 0 < span) (a b : Nat) : (b + posSub span a b) % span = a % span := by
  have hb := Nat.mod_lt b h
  have hdiv := Nat.div_add_mod b span
  rw [posSub, Nat.add_mod_mod, show b + (a + (span - b % span)) = a + span * (b / span + 1) by
    rw [Nat.mul_add]; omega, Nat.add_mul_mod_self_left]

theorem posSub_add {span i : Nat} (b : Nat) {a : Nat} (hi : i < span) (h : (b + i) % span = a % span) :
    posSub span a b = i := by
  have hb := Nat.mod_lt b (Nat.lt_of_le_of_lt (Nat.zero_le i) hi)
  have hdiv := Nat.div_add_mod b span
  rw [posSub, Nat.add_mod, ← h, ← Nat.add_mod, show b + i + (span - b % span) = i + span * (b / span + 1) by
    rw [Nat.mul_add]; omega, Nat.add_mul_mod_self_left, Nat.mod_eq_of_lt hi]

/-- R66: the candidates lie from W before the lead to the trailing edge. -/
theorem candidate_iff {s : State} (d : Detection) (e : ExpectEntry) (h : 0 < s.cfg.span) :
    s.candidate d e = true ↔ ∃ i, i ≤ posSub s.cfg.span d.trailing (posSub s.cfg.span d.lead s.cfg.matchW) ∧
      (posSub s.cfg.span d.lead s.cfg.matchW + i) % s.cfg.span = e.ticket.lead % s.cfg.span := by
  have hlt := posSub_lt h d.trailing (posSub s.cfg.span d.lead s.cfg.matchW)
  simp only [State.candidate, decide_eq_true_eq]
  refine ⟨fun hle => ⟨_, hle, add_posSub h _ _⟩, ?_⟩
  rintro ⟨i, hi, heq⟩
  rw [posSub_add _ (Nat.lt_of_le_of_lt hi hlt) heq]
  exact hi

/-! ### Placement and insertion (R71, R72, R78, R79, R87) -/

theorem placement_stray_counter {span : Nat} {d : Detection} {l : List ExpectEntry} (h : (placement span d l).stray = true) :
    (placement span d l).counter = .strays := by
  match l with
  | [] => rfl
  | [_] => exact absurd h (by simp [placement])
  | _ :: _ :: _ => exact absurd h (by simp [placement])

theorem freeRef_of_free {l : List TransitEntry} {n : Nat} (fuel : Nat) (h : ∀ e ∈ l, e.ref ≠ n) :
    freeRef l (fuel + 1) n = n := by
  have hany : l.any (fun e => e.ref == n) = false := by
    rw [List.any_eq_false]
    exact fun e he => by simpa using h e he
  simp [freeRef, hany]

/-- Settles O28. -/
theorem expiryAndHandOver : Obligations.ExpiryAndHandOver := by
  refine ⟨fun s => ⟨fun h => ?_, fun h => ⟨?_, fun hc => ?_⟩, mem_expireAfterPlacement s, fun d hc => ?unsynced,
    fun d hc => ?placed, fun h => ?serial, ?serials, holdsId_iff s.trk, fun n => ⟨rfl, rfl⟩⟩,
    fun s d e h => candidate_iff d e h, fun s d => ?place, fun s t stray k h => ?insert,
    fun s e => insertByDist_place _ e s.trk.transit⟩
  · rw [State.expireAtStep, if_neg h]
  · rw [State.expireAtStep, if_pos h, loseEntries_expect]
    refine List.filter_congr fun e _ => ?_
    rw [Bool.eq_iff_iff, Bool.not_eq_true', not_pastExpiry_iff, decide_eq_true_iff]
  · rw [State.expireAtStep, if_pos h]
    exact loseEntries_lost _ hc
  case unsynced =>
    have hs1 : (s.releaseLink d.lead).pos.cond = .unsynced := hc
    rw [State.handOver, if_pos hs1]
    exact ⟨rfl, rfl⟩
  case placed =>
    have hs1 : (s.releaseLink d.lead).pos.cond ≠ .unsynced := hc
    exact if_neg hs1
  case serial => simp [State.nextSerial, freeSerial, h]
  case serials =>
    intro tried
    obtain ⟨k, hk, hserial, hheld, hfree⟩ := freeSerial_first s.trk s.ctl.address 81 s.trk.serial
    refine ⟨k, hk, hserial, hheld, hfree, fun hroom => ?_⟩
    obtain ⟨j, hj, hjfree⟩ := exists_free_serial s.ctl.address s.trk.serial hroom
    by_contra hlast
    have hjheld := hheld j (by omega)
    rw [triedSerial] at hjfree
    rw [hjfree] at hjheld
    exact absurd hjheld (by simp)
  case place =>
    intro p s1 q t
    have htransit : s1.trk.transit = s.trk.transit := rfl
    have hplace : s.place d = if s1.trk.transit.length < Config.transitMax then
        if p.stray then (s1.advanceSerial s1.nextSerial).insertItem { t with id := ⟨s1.ctl.address, s1.nextSerial⟩ } true
          p.counter
        else s1.insertItem t false p.counter
      else s1.count .untracked := rfl
    have hmax : Config.transitMax = 48 := rfl
    rw [htransit, hmax] at hplace
    refine ⟨fun h => ?_, fun h hs => ?_, fun h hs => ?_⟩
    · rw [hplace, if_neg (by omega)]
    · rw [hplace, if_pos h, if_pos hs, placement_stray_counter hs]
      rfl
    · rw [hplace, if_pos h, if_neg (by simp [hs])]
  case insert =>
    refine ⟨freeRef s.trk.transit 49 s.trk.refCount, fun e he => freeRef_fresh _ _ _ (freeRef_exists _ _ h) e he,
      freeRef_of_free 48, ?_⟩
    intro d reached
    have hreached : d.1.exitReached t = reached := by
      simp [State.exitReached, State.exitEnd, State.dist, reached, d]
      rfl
    rw [← hreached]
    rfl

end Sys2Proof.Machine

/-! The end of an item's way: the exit decision (R87 to R91), and the flush (R92, R134). -/

namespace Sys2Proof.Machine

/-! ### The exit decision -/

theorem decideExit_stands {s : State} {ref : Nat} {e : TransitEntry} (he : s.entry ref = some e)
    (h : (∀ r, e.state ≠ .pass r) ∨ e.exitDone = false) : s.decideExit ref = s := by
  rw [State.decideExit, he]
  dsimp only
  split
  · next r hr =>
    obtain h | h := h
    · exact absurd hr (h r)
    · rw [if_neg (by simp [h])]
  · rfl
  · rfl

/-- R87: an entry in PASS whose exit extent is crossed leaves the list. -/
theorem decideExit_decides {s : State} {ref : Nat} {e : TransitEntry} {r : PassReason} (he : s.entry ref = some e)
    (hr : e.state = .pass r) (hdone : e.exitDone = true) :
    s.decideExit ref = if e.exitBlocked then (s.removeEntry ref).sendRelease (releasedTicket e.ticket r)
      else (s.removeEntry ref).count .vanished := by
  simp only [State.decideExit, he, hr, hdone, if_true]

/-- R91: with no peer downstream the ticket goes to the end catch. -/
theorem sendRelease_endCatch {s : State} (t : Ticket) (h : s.nextPeer = none) :
    (s.sendRelease t).counters = s.counters.bump .toEndCatch ∧
    (t.cls = 13 → (s.sendRelease t).trk.foreignPulse = some 2000000000) ∧
    (t.cls ≠ 13 → (s.sendRelease t).trk.foreignPulse = s.trk.foreignPulse) := by
  have hsend : s.sendRelease t = if t.cls = 13
      then (s.count .toEndCatch).setTrk { (s.count .toEndCatch).trk with foreignPulse := Timer.start Config.foreignPulseMs }
      else s.count .toEndCatch := by
    simp only [State.sendRelease, h]
    rfl
  rw [hsend]
  by_cases hcls : t.cls = 13
  · rw [if_pos hcls]
    exact ⟨rfl, fun _ => rfl, fun hne => absurd hcls hne⟩
  · rw [if_neg hcls]
    exact ⟨rfl, fun heq => absurd heq hcls, fun _ => rfl⟩

/-- R90: with a peer downstream the ticket is queued for it. -/
theorem sendRelease_peer {s : State} (t : Ticket) {p : PeerEntry} (h : s.nextPeer = some p) :
    s.sendRelease t =
      (s.count .passedToPeer).enqueueOwn (s.buildFrame Config.kindTicket p.address (encodeTicket t false)) := by
  simp only [State.sendRelease, h]

/-- Settles O29. -/
theorem exitDecidesPassedEntries : Obligations.ExitDecidesPassedEntries := by
  intro s ref e he
  refine ⟨decideExit_stands he, fun r hr hdone => ?_⟩
  rw [decideExit_decides he hr hdone]
  have hnext : (s.removeEntry ref).nextPeer = s.nextPeer := rfl
  refine ⟨?_, fun hb => ?_, fun hb hn => ?_, fun p hb hn hlink htx hroom => ?_⟩
  · split <;> simp [State.removeEntry]
  · simp only [hb, Bool.false_eq_true, if_false]
    exact ⟨rfl, rfl⟩
  · rw [if_pos hb]
    exact sendRelease_endCatch (releasedTicket e.ticket r) (hnext.trans hn)
  · rw [if_pos hb, sendRelease_peer _ (hnext.trans hn), enqueueOwn_waits]
    · exact ⟨rfl, rfl⟩
    · exact hlink
    · exact .inl (show Config.kindTicket ≠ Config.kindBinstate by decide)
    · exact hroom
    · exact htx

/-! ### The flush -/

/-- R92, R134: what the withdrawals of a list of entries leave of one ejector and its bin. -/
theorem withdraws_spec (l : List TransitEntry) (s : State) (b : BinNo) :
    let t := l.foldl State.withdraw s
    t.ej.get b = { s.ej.get b with schedule := (t.ej.get b).schedule } ∧
    t.bins.recs.get b = { s.bins.recs.get b with
      pending := (s.bins.recs.get b).pending - (l.filter (fun e => decide (e.state.names = some b))).length } ∧
    ∀ it, it ∈ (t.ej.get b).schedule ↔
      it ∈ (s.ej.get b).schedule ∧ ∀ e ∈ l, ∀ fp, e.state = .scheduled b fp → it.ref ≠ e.ref := by
  induction l generalizing s with
  | nil => simp
  | cons e l ih =>
    obtain ⟨hej, hrec, hsched⟩ := withdraw_spec s e b
    obtain ⟨tej, trec, tsched⟩ := ih (s.withdraw e)
    rw [List.foldl_cons]
    refine ⟨?_, ?_, fun it => ?_⟩
    · rw [tej, hej]
    · rw [trec, hrec]
      simp only [List.filter_cons, decide_eq_true_eq]
      split
      · rw [List.length_cons, Nat.sub_sub, Nat.add_comm 1]
      · rfl
    · rw [tsched it, hsched it]
      simp only [List.mem_cons, forall_eq_or_imp, and_assoc]

/-- R92: the flush, by its steps. -/
theorem flush_fields (s : State) :
    s.flush.trk = { s.trk with expect := [], transit := [] } ∧
    (∀ b, s.flush.ej.get b = { (s.trk.transit.foldl State.withdraw s).ej.get b with watch := [] }) ∧
    s.flush.bins = (s.trk.transit.foldl State.withdraw s).bins ∧
    (s.counters.get .flushed ≤ 65535 → s.flush.counters.get .flushed =
      min 65535 (s.counters.get .flushed + (s.trk.transit.length + s.trk.expect.length))) := by
  have htrk : (s.trk.transit.foldl State.withdraw s).trk = s.trk := foldl_keeps State.trk _ (by simp) _ _
  have hcounters : (s.trk.transit.foldl State.withdraw s).counters = s.counters := foldl_keeps State.counters _ (by simp) _ _
  unfold State.flush
  dsimp only
  refine ⟨by simp [htrk], by simp, by simp, fun h => ?_⟩
  rw [get_countMany]
  · simp [hcounters]
  · simpa [hcounters] using h

/-- An empty Transit List has no exit to decide. -/
theorem exitLine_of_empty {s : State} (ev : StepEvent) (h : s.trk.transit = []) : s.exitLine ev = s := by
  rw [State.exitLine, h]
  simp only [List.map_nil, List.foldl_nil, State.setTransit]
  rw [← h]
  rfl

theorem expireAtStep_of_empty {s : State} (h : s.trk.expect = []) : s.expireAtStep = s := by
  unfold State.expireAtStep
  split
  · simp only [State.loseEntries, h, List.filter_nil, List.length_nil, State.countMany, State.setExpect]
    rw [← h]
    rfl
  · rfl

/-- R77: the bin an entry names. -/
theorem names_iff (x : EntryState) (b : BinNo) :
    x.names = some b ↔ (∃ fp, x = .scheduled b fp) ∨ ∃ fp, x = .fired b fp false := by
  cases x with
  | pass r => simp [EntryState.names]
  | scheduled c fp => simp [EntryState.names]
  | fired c fp d => cases d <;> simp [EntryState.names]

/-- Settles O30. -/
theorem flushEmptiesListsAndWatches : Obligations.FlushEmptiesListsAndWatches := by
  refine ⟨fun s => ?flush, names_iff, fun s ev => ⟨fun h => ?slip, fun h => ?noSlip⟩⟩
  case flush =>
    obtain ⟨htrk, hej, hbins, hcount⟩ := flush_fields s
    have hspec := withdraws_spec s.trk.transit s
    refine ⟨by rw [htrk], by rw [htrk], fun b => by rw [hej], by rw [htrk], fun e he b fp hs it hit => ?_, fun b => ?_,
      fun b => ⟨?_, fun it => ?_⟩, fun b => ?_, hcount⟩
    · obtain ⟨-, -, hsched⟩ := hspec b
      rw [hej] at hit
      exact ((hsched it).mp hit).2 e he fp hs
    · obtain ⟨hkeeps, -⟩ := hspec b
      rw [hej, hkeeps]
      exact ⟨rfl, rfl⟩
    · obtain ⟨hkeeps, -⟩ := hspec b
      rw [hej, hkeeps]
    · obtain ⟨-, -, hsched⟩ := hspec b
      rw [hej]
      exact hsched it
    · obtain ⟨-, hrec, -⟩ := hspec b
      rw [hbins]
      exact hrec
  case slip =>
    obtain ⟨htrk, hej, -⟩ := flush_fields s
    have hempty : s.flush.expireAtStep = s.flush := expireAtStep_of_empty (by rw [htrk])
    have hstep : s.trackStep ev = s.flush.expireAtStep.exitLine ev := by simp only [State.trackStep, h, if_true]
    refine ⟨hstep, ?_⟩
    rw [hstep, hempty, exitLine_of_empty ev (by rw [htrk])]
    exact ⟨by rw [htrk], by rw [htrk], fun b => by rw [hej]⟩
  case noSlip => simp [State.trackStep, h]

end Sys2Proof.Machine

/-! The decision (R101, R104, R118 to R122): the tests, the choice of a bin, and the take. -/

namespace Sys2Proof.Machine

/-! ### The bin of lowest level, and the balance (R120, R121) -/

/-- One more bin, against the best so far. -/
def State.lowerBin (s : State) (best : Option BinNo) (b : BinNo) : Option BinNo :=
  match best with
  | none => some b
  | some c => if s.binLevel b < s.binLevel c then some b else some c

theorem lowestBin_append (s : State) (l : List BinNo) (b : BinNo) :
    s.lowestBin (l ++ [b]) = s.lowerBin (s.lowestBin l) b := by
  rw [State.lowestBin, List.foldl_append]
  rfl

/-- R120: the first of the bins of lowest level. -/
theorem lowestBin_spec (s : State) (l : List BinNo) : (s.lowestBin l = none ↔ l = []) ∧
    ∀ b, s.lowestBin l = some b →
      ∃ before after, l = before ++ b :: after ∧ (∀ c ∈ before, s.binLevel b < s.binLevel c) ∧
        ∀ c ∈ after, s.binLevel b ≤ s.binLevel c := by
  induction l using List.reverseRecOn with
  | nil => exact ⟨⟨fun _ => rfl, fun _ => rfl⟩, fun b h => absurd h (by simp [State.lowestBin])⟩
  | append_singleton l b ih =>
    obtain ⟨hnone, hsome⟩ := ih
    rw [lowestBin_append]
    cases hbest : s.lowestBin l with
    | none =>
      rw [hnone.mp hbest]
      refine ⟨by simp [State.lowerBin], fun c hc => ?_⟩
      rw [State.lowerBin, Option.some.injEq] at hc
      exact ⟨[], [], by simp [hc], by simp, by simp⟩
    | some c =>
      obtain ⟨before, after, hsplit, hbefore, hafter⟩ := hsome c hbest
      by_cases hlower : s.binLevel b < s.binLevel c
      · refine ⟨by simp [State.lowerBin, hlower], fun x hx => ?_⟩
        rw [State.lowerBin, if_pos hlower, Option.some.injEq] at hx
        subst hx
        refine ⟨l, [], rfl, fun x hx => ?_, by simp⟩
        rw [hsplit, List.mem_append, List.mem_cons] at hx
        obtain hx | rfl | hx := hx
        · exact Nat.lt_trans hlower (hbefore x hx)
        · exact hlower
        · exact Nat.lt_of_lt_of_le hlower (hafter x hx)
      · refine ⟨by simp [State.lowerBin, hlower], fun x hx => ?_⟩
        rw [State.lowerBin, if_neg hlower, Option.some.injEq] at hx
        subst hx
        refine ⟨before, after ++ [b], by simp [hsplit], hbefore, fun x hx => ?_⟩
        obtain hx | hx := List.mem_append.mp hx
        · exact hafter x hx
        · rw [List.mem_singleton.mp hx]
          exact Nat.not_lt.mp hlower

theorem lowestBin_mem {s : State} {l : List BinNo} {b : BinNo} (h : s.lowestBin l = some b) : b ∈ l := by
  obtain ⟨-, hsome⟩ := lowestBin_spec s l
  obtain ⟨before, after, rfl, -, -⟩ := hsome b h
  simp

/-- The least of a list, and that it is one of its members. -/
theorem le_foldl_min_iff (l : List Nat) (a n h : Nat) :
    n ≤ l.foldl min a + h ↔ ∃ m ∈ a :: l, n ≤ m + h ∧ ∀ x ∈ a :: l, m ≤ x := by
  have hspec : ∀ (l : List Nat) (a : Nat), l.foldl min a ∈ a :: l ∧ ∀ x ∈ a :: l, l.foldl min a ≤ x := by
    intro l
    induction l with
    | nil => simp
    | cons b l ih =>
      intro a
      obtain ⟨hmem, hle⟩ := ih (min a b)
      rw [List.foldl_cons]
      have hmin := hle (min a b) (by simp)
      refine ⟨?_, fun x hx => ?_⟩
      · rw [List.mem_cons] at hmem ⊢
        obtain h | h := hmem
        · rw [h]
          rcases Nat.le_total a b with hab | hab <;> simp [hab]
        · exact .inr (List.mem_cons_of_mem _ h)
      · simp only [List.mem_cons] at hx
        obtain rfl | rfl | hx := hx
        · omega
        · omega
        · exact hle x (List.mem_cons_of_mem _ hx)
  obtain ⟨hmem, hle⟩ := hspec l a
  constructor
  · exact fun hn => ⟨_, hmem, hn, hle⟩
  · rintro ⟨m, hm, hn, hmin⟩
    have := hmin _ hmem
    omega

theorem offering_iff (s : State) (cls : Nat) (e : BoardEntry) : s.offering cls e = true ↔
    s.since e.refresh < 2000 ∧ e.cls = cls ∧ (e.state = .opened ∨ e.state = .near) ∧ e.fill + e.pending < e.capacity ∧
    e.unverified = false ∧ e.fault = false ∧ e.modeRun = true ∧ e.tracking = true ∧ e.degraded = false ∧
    ∃ p, s.peer e.peer = some p ∧ s.cfg.gateDist < p.gateDist := by
  simp only [State.offering, State.fresh, Bool.and_eq_true, decide_eq_true_eq, beq_iff_eq,
    Bool.not_eq_true', BinState.takes, Bool.or_eq_true, and_assoc]
  cases s.peer e.peer <;> simp [Config.freshMs]

/-- R121: the balance test of an EVEN class. -/
theorem balanceTakes_even {s : State} {cls : Nat} (b : BinNo) (h : s.cfg.balance.getLsbD (cls - 1) = true) :
    s.balanceTakes cls b = true ↔ (∀ e ∈ s.bins.board, s.offering cls e = false) ∨
      ∃ e ∈ s.bins.board, s.offering cls e = true ∧
        s.binLevel b ≤ 16 * (e.fill + e.pending) / e.capacity + s.cfg.hysteresis ∧
        ∀ x ∈ s.bins.board, s.offering cls x = true →
          16 * (e.fill + e.pending) / e.capacity ≤ 16 * (x.fill + x.pending) / x.capacity := by
  have hmem : ∀ m, m ∈ s.offeredLevels cls ↔
      ∃ e ∈ s.bins.board, s.offering cls e = true ∧ 16 * (e.fill + e.pending) / e.capacity = m := by
    intro m
    simp [State.offeredLevels, sixteenths, and_assoc]
  rw [State.balanceTakes, Settings.even, if_pos h]
  cases hlevels : s.offeredLevels cls with
  | nil =>
    have hnone : ∀ e ∈ s.bins.board, s.offering cls e = false := by
      intro e he
      by_contra hoffers
      have hin := (hmem _).mpr ⟨e, he, by simpa using hoffers, rfl⟩
      simp [hlevels] at hin
    simp only [true_iff]
    exact .inl hnone
  | cons l rest =>
    rw [hlevels] at hmem
    have hsome : ¬ ∀ e ∈ s.bins.board, s.offering cls e = false := by
      intro hnone
      obtain ⟨e, he, hoffers, -⟩ := (hmem l).mp (by simp)
      simp [hnone e he] at hoffers
    rw [decide_eq_true_iff, le_foldl_min_iff]
    simp only [hsome, false_or]
    constructor
    · rintro ⟨m, hm, hle, hmin⟩
      obtain ⟨e, he, hoffers, rfl⟩ := (hmem m).mp hm
      exact ⟨e, he, hoffers, hle, fun x hx hxo => hmin _ ((hmem _).mpr ⟨x, hx, hxo, rfl⟩)⟩
    · rintro ⟨e, he, hoffers, hle, hmin⟩
      refine ⟨_, (hmem _).mpr ⟨e, he, hoffers, rfl⟩, hle, fun m hm => ?_⟩
      obtain ⟨x, hx, hxo, rfl⟩ := (hmem m).mp hm
      exact hmin x hx hxo

/-- Settles O32. -/
theorem binChoiceByLevelAndBalance : Obligations.BinChoiceByLevelAndBalance := by
  refine ⟨lowestBin_spec, fun s cls b => ⟨fun h => ?_, balanceTakes_even b⟩, offering_iff⟩
  rw [State.balanceTakes, Settings.even, if_neg (by simp [h])]

end Sys2Proof.Machine

/-! The decision, continued: its outcomes (R118, R119, R122), and the take (R101, R104). -/

namespace Sys2Proof.Machine

/-- R101: what a reservation needs. -/
theorem grants_iff (s : State) (b : BinNo) : s.grants b = true ↔
    (s.binCfg b).configured = true ∧ (s.bins.recs.get b).state.takes = true ∧
    (s.bins.recs.get b).fill + (s.bins.recs.get b).pending < (s.binCfg b).capacity ∧ (s.bins.recs.get b).pending < 8 := by
  simp [State.grants, and_assoc]

/-- R119: a configured bin of the class that takes, with its ejector in order. -/
theorem candidateBin_iff (s : State) (cls : Nat) (b : BinNo) : s.candidateBin cls b = true ↔
    (s.binCfg b).configured = true ∧ (s.binCfg b).cls = cls ∧ (s.bins.recs.get b).state.takes = true ∧
    (s.bins.recs.get b).fill + (s.bins.recs.get b).pending < (s.binCfg b).capacity ∧
    (s.bins.recs.get b).pending < 8 ∧ (s.ej.get b).state ≠ .fault := by
  simp only [State.candidateBin, Bool.and_eq_true, beq_iff_eq, bne_iff_ne, grants_iff]
  tauto

theorem ejectorRoom_iff (s : State) (k : Ticket) (b : BinNo) : s.ejectorRoom k b = true ↔
    (s.ej.get b).schedule.length < 8 ∧ 1 ≤ s.dist (s.firePosition b k) ∧
    ∀ it ∈ (s.ej.get b).schedule,
      (s.binCfg b).spacing ≤ (signedDiff s.cfg.span (s.firePosition b k) it.firePos).natAbs := by
  simp only [State.ejectorRoom, Bool.and_eq_true, decide_eq_true_eq, List.all_eq_true]
  simp only [State.apart, Config.scheduleMax]
  tauto

/-- R119: the bins that could take the item. -/
def State.ableBins (s : State) (k : Ticket) : List BinNo :=
  (s.cfg.configuredBins.filter (s.candidateBin k.cls)).filter (s.ejectorRoom k)

theorem mem_ableBins (s : State) (k : Ticket) (b : BinNo) :
    b ∈ s.ableBins k ↔ s.candidateBin k.cls b = true ∧ s.ejectorRoom k b = true := by
  simp only [State.ableBins, List.mem_filter, mem_configuredBins, and_congr_left_iff]
  refine fun _ => ⟨fun h => h.2, fun h => ⟨?_, h⟩⟩
  obtain ⟨hconf, -⟩ := (candidateBin_iff s k.cls b).mp h
  exact hconf

/-- R118 to R122: the decision, once the tests that pass at once are behind. -/
theorem decision_of_none {s : State} (ref : Nat) {k : Ticket} (h : s.passAtOnce k = none) :
    ((∀ b, s.candidateBin k.cls b = false) → s.decision ref k = (s, .pass .full)) ∧
    ((∃ b, s.candidateBin k.cls b = true) → s.ableBins k = [] → s.decision ref k = (s, .pass .busy)) ∧
    ∀ b, s.lowestBin (s.ableBins k) = some b →
      s.decision ref k = if s.balanceTakes k.cls b then s.take ref k b else (s, .pass .deferred) := by
  have hcands : ∀ b, b ∈ s.cfg.configuredBins.filter (s.candidateBin k.cls) ↔ s.candidateBin k.cls b = true := by
    intro b
    simp only [List.mem_filter, mem_configuredBins, and_iff_right_iff_imp]
    intro hb
    obtain ⟨hconf, -⟩ := (candidateBin_iff s k.cls b).mp hb
    exact hconf
  rw [State.ableBins]
  unfold State.decision
  rw [h]
  dsimp only
  split
  · next hnil =>
    rw [hnil] at hcands
    refine ⟨fun _ => rfl, fun ⟨b, hb⟩ => ?_, fun b hb => ?_⟩
    · exact absurd ((hcands b).mpr hb) (by simp)
    · rw [hnil] at hb
      exact absurd hb (by simp [State.lowestBin])
  · next c cs hcons =>
    rw [hcons] at hcands
    refine ⟨fun hnone => ?_, fun _ hnil => ?_, fun b hb => ?_⟩
    · have hc := (hcands c).mp (by simp)
      simp [hnone c] at hc
    · rw [hcons] at hnil
      rw [hnil]
      rfl
    · rw [hcons] at hb
      rw [hb]

/-- R118: the tests 1 to 4 of a running station. -/
theorem passAtOnce_run {s : State} (k : Ticket) (hmode : s.ctl.mode ≠ .safe) (hservice : s.ctl.mode ≠ .service)
    (hcond : s.pos.cond = .normal) :
    s.passAtOnce k = if k.cls = 0 ∨ k.cls = 13 ∨ 2 ≤ k.missed then some .noSort
      else if s.cfg.configuredBins.any (fun b => (s.binCfg b).cls == k.cls) then none else some .noBin := by
  rw [State.passAtOnce, if_neg hmode, if_neg hservice, if_neg (not_not.mpr hcond)]
  rfl

theorem decision_of_some {s : State} (ref : Nat) {k : Ticket} {r : PassReason} (h : s.passAtOnce k = some r) :
    s.decision ref k = (s, .pass r) := by
  rw [State.decision, h]

theorem passAtOnce_none_iff (s : State) (k : Ticket) : s.passAtOnce k = none ↔
    s.ctl.mode ≠ .safe ∧ s.ctl.mode ≠ .service ∧ s.pos.cond = .normal ∧ ¬ (k.cls = 0 ∨ k.cls = 13 ∨ 2 ≤ k.missed) ∧
      ∃ b, (s.binCfg b).configured = true ∧ (s.binCfg b).cls = k.cls := by
  have hany : s.cfg.configuredBins.any (fun b => (s.binCfg b).cls == k.cls) = true ↔
      ∃ b, (s.binCfg b).configured = true ∧ (s.binCfg b).cls = k.cls := by
    simp [mem_configuredBins, State.binCfg]
  by_cases hmode : s.ctl.mode = .safe
  · simp [State.passAtOnce, hmode]
  by_cases hservice : s.ctl.mode = .service
  · simp [State.passAtOnce, hservice]
  by_cases hcond : s.pos.cond = .normal
  · rw [passAtOnce_run k hmode hservice hcond, ← hany]
    split
    · next hsort => simp [hsort]
    · next hsort => split <;> simp_all
  · simp [State.passAtOnce, hmode, hservice, hcond]

/-- R101, R122: a granted take: the reservation, and the place in the fire schedule. -/
theorem take_granted_parts {s : State} (ref : Nat) (k : Ticket) (b : BinNo) (h : s.takeBetween.grants b = true) :
    let t := (s.take ref k b).1
    t.bins.recs = s.takeBetween.bins.recs.set b
      { s.takeBetween.bins.recs.get b with pending := (s.takeBetween.bins.recs.get b).pending + 1 } ∧
    InsertedByDist (fun it => s.dist it.firePos) ⟨ref, s.firePosition b k⟩ (s.takeBetween.ej.get b).schedule
      (t.ej.get b).schedule ∧
    t.ej = s.takeBetween.ej.set b { s.takeBetween.ej.get b with schedule := (t.ej.get b).schedule } ∧
    SameBut [.bins, .ej] s.takeBetween t := by
  intro t
  obtain ⟨-, hrecs, hej⟩ := take_granted s ref k b h
  have hsched : (t.ej.get b).schedule =
      insertByDist (fun it => s.dist it.firePos) ⟨ref, s.firePosition b k⟩ (s.takeBetween.ej.get b).schedule := by
    simp [t, hej]
  refine ⟨hrecs, ?_, ?_, ?_⟩
  · rw [hsched]
    exact insertByDist_place _ _ _
  · rw [hsched]
    exact hej
  · obtain ⟨e, ht⟩ : ∃ e, t = (s.takeBetween.reserve b).setEjector b e :=
      ⟨_, by simp only [t, State.take, h, if_true]; rfl⟩
    rw [ht]
    simp [sameBut_iff, State.setEjector, State.reserve]

/-- An answer SCHEDULED comes of a take. -/
theorem decision_scheduled {s t : State} {ref : Nat} {k : Ticket} {b : BinNo} {fp : Nat}
    (h : s.decision ref k = (t, .scheduled b fp)) :
    s.passAtOnce k = none ∧ s.candidateBin k.cls b = true ∧ s.ejectorRoom k b = true ∧ s.takeBetween.grants b = true ∧
      fp = s.firePosition b k ∧ t = (s.take ref k b).1 := by
  have hpass : s.passAtOnce k = none := by
    cases hp : s.passAtOnce k with
    | none => rfl
    | some r =>
      rw [decision_of_some ref hp] at h
      simp at h
  obtain ⟨hfull, hbusy, hchosen⟩ := decision_of_none ref hpass
  by_cases hcand : ∃ b, s.candidateBin k.cls b = true
  · cases hlow : s.lowestBin (s.ableBins k) with
    | none =>
      obtain ⟨hnone, -⟩ := lowestBin_spec s (s.ableBins k)
      rw [hbusy hcand (hnone.mp hlow)] at h
      simp at h
    | some c =>
      rw [hchosen c hlow] at h
      split at h
      · have hgrants : s.takeBetween.grants c = true := by
          by_contra hrefused
          rw [take_refused s ref k c (by simpa using hrefused)] at h
          simp at h
        obtain ⟨hanswer, -⟩ := take_granted s ref k c hgrants
        rw [h] at hanswer
        simp only [EntryState.scheduled.injEq] at hanswer
        obtain ⟨rfl, hfp⟩ := hanswer
        obtain ⟨hc, hroom⟩ := (mem_ableBins s k b).mp (lowestBin_mem hlow)
        exact ⟨hpass, hc, hroom, hgrants, hfp, by rw [h]⟩
      · simp at h
  · rw [hfull (by simpa using hcand)] at h
    simp at h

/-- Settles O31: the tests in their order; then the bins that take, those with room, and the take. -/
theorem decisionTests : Obligations.DecisionTests := by
  refine ⟨fun s ref k => ?decision, fun s ref k b => ?take, fun s => ⟨takeBetween_nil s, takeBetween_cons s⟩⟩
  case decision =>
    intro fire takes room able
    have htakes : ∀ b, s.candidateBin k.cls b = true ↔ takes b := candidateBin_iff s k.cls
    have hroom : ∀ b, s.ejectorRoom k b = true ↔ room b := ejectorRoom_iff s k
    have hable : ∀ b, b ∈ able ↔ takes b ∧ room b := by
      intro b
      rw [← htakes, ← hroom]
      exact mem_ableBins s k b
    refine ⟨fun hm => ?_, fun hm => ?_, fun hm hc => ?_, fun hm hc hs => ?_, fun hm hc h0 h13 h2 => ?sorted,
      fun t b fp h => ?scheduled⟩
    · exact decision_of_some ref (if_pos hm)
    · exact decision_of_some ref (by simp [State.passAtOnce, hm])
    · exact decision_of_some ref (by simp [State.passAtOnce, hm, hc])
    · refine decision_of_some ref ?_
      rw [passAtOnce_run k (by simp [hm]) (by simp [hm]) hc, if_pos hs]
    case sorted =>
      have hsort : ¬ (k.cls = 0 ∨ k.cls = 13 ∨ 2 ≤ k.missed) := by omega
      refine ⟨fun hnobin => ?_, fun hbin => ⟨hable, fun hfull => ?_, fun hsome hbusy => ?_, fun b hlow =>
        ⟨fun hbal => ?_, fun hbal => ⟨?_, fun hbetween => ?_⟩⟩⟩⟩
      · refine decision_of_some ref ?_
        rw [passAtOnce_run k (by simp [hm]) (by simp [hm]) hc, if_neg hsort, if_neg]
        simpa [mem_configuredBins, State.binCfg] using hnobin
      all_goals
        obtain ⟨hnone, hempty, hchosen⟩ := decision_of_none ref
          ((passAtOnce_none_iff s k).mpr ⟨by simp [hm], by simp [hm], hc, hsort, hbin⟩)
      · exact hnone fun b => by
          rw [Bool.eq_false_iff, ne_eq, htakes]
          exact hfull b
      · obtain ⟨b, hb⟩ := hsome
        refine hempty ⟨b, (htakes b).mpr hb⟩ (List.eq_nil_iff_forall_not_mem.mpr fun c hc' => ?_)
        obtain ⟨hct, hcr⟩ := (hable c).mp hc'
        exact hbusy c hct hcr
      · rw [hchosen b hlow, hbal]
        rfl
      · rw [hchosen b hlow, if_pos hbal]
      · rw [hchosen b hlow, if_pos hbal]
        obtain ⟨hct, -⟩ := (hable b).mp (lowestBin_mem hlow)
        have hgrants : s.takeBetween.grants b = true := by
          rw [takeBetween_nil s hbetween]
          have hcand := (htakes b).mpr hct
          simp only [State.candidateBin, Bool.and_eq_true] at hcand
          exact hcand.1.2
        obtain ⟨hanswer, -⟩ := take_granted s ref k b hgrants
        exact hanswer
    case scheduled =>
      obtain ⟨hpass, hcand, hroomb, hgrants, hfp, ht⟩ := decision_scheduled h
      obtain ⟨hsafe, hservice, hcond, -⟩ := (passAtOnce_none_iff s k).mp hpass
      refine ⟨hsafe, hservice, hcond, (htakes b).mp hcand, (hroom b).mp hroomb, hfp, ?_⟩
      subst ht hfp
      exact take_granted_parts ref k b hgrants
  case take =>
    intro s1 r granted
    have hgranted : s.takeBetween.grants b = true ↔ granted := by
      rw [grants_iff]
      simp [granted, r, s1, State.binCfg]
    refine ⟨fun h => take_refused s ref k b ?_, fun h => ?_⟩
    · rw [Bool.eq_false_iff, ne_eq, hgranted]
      exact h
    · obtain ⟨hanswer, -⟩ := take_granted s ref k b (hgranted.mpr h)
      exact ⟨(s.take ref k b).1, Prod.ext rfl hanswer⟩

end Sys2Proof.Machine

/-! Cancellation, the fire of a head, and the end of an ejector's timers (R80, R87, R124, R125, R130, section 7.7). -/

namespace Sys2Proof.Machine

/-! ### A cancelled schedule -/

theorem updateEntry_passed_none {s : State} {n : Nat} (ref : Nat) (f : TransitEntry → TransitEntry)
    (hf : ∀ e, (f e).ref = e.ref) (h : s.entry n = none) : (s.updateEntry ref f).entry n = none := by
  rw [entry_updateEntry s ref n f hf, h]
  rfl

theorem passedEntry_ref (r : PassReason) (e : TransitEntry) : (passedEntry r e).ref = e.ref := by
  unfold passedEntry
  split <;> rfl

/-- An item whose entry is gone stays gone. -/
theorem entry_cancelItem_none {s : State} {n : Nat} (b : BinNo) (r : PassReason) (it : SchedItem) (h : s.entry n = none) :
    (s.cancelItem b r it).entry n = none := by
  have hgone : ((s.unreserve b).updateEntry it.ref (passedEntry r)).entry n = none :=
    updateEntry_passed_none it.ref _ (passedEntry_ref r) (by rw [entry_unreserve, h])
  rw [State.cancelItem, State.requestPass, entry_decideExit, hgone, ite_self]

/-- An entry that is gone, or stands in PASS short of its exit end, is not touched by further cancellations. -/
theorem entry_cancelItems_settled {s : State} {n : Nat} (b : BinNo) (r : PassReason) (l : List SchedItem)
    (h : ∀ e, s.entry n = some e → (∀ c fp, e.state ≠ .scheduled c fp) ∧ (e.state.isPass = false ∨ e.exitDone = false)) :
    (l.foldl (fun acc it => acc.cancelItem b r it) s).entry n = s.entry n := by
  induction l generalizing s with
  | nil => rfl
  | cons it l ih =>
    have hstep : (s.cancelItem b r it).entry n = s.entry n := by
      cases hentry : s.entry n with
      | none => exact entry_cancelItem_none b r it hentry
      | some e =>
        obtain ⟨hsched, hdone⟩ := h e hentry
        exact entry_cancelItem_stands s b r it n e hentry hsched hdone
    rw [List.foldl_cons, ih (by rw [hstep]; exact h), hstep]

/-- R80, R87: what a list of cancellations makes of a SCHEDULED entry that it names. -/
theorem entry_cancelItems {s : State} {n : Nat} {e : TransitEntry} {c : BinNo} {fp : Nat} (b : BinNo) (r : PassReason)
    (l : List SchedItem) (he : s.entry n = some e) (hs : e.state = .scheduled c fp) (hn : n ∈ l.map (fun it => it.ref)) :
    (l.foldl (fun acc it => acc.cancelItem b r it) s).entry n =
      if e.exitDone then none else some { e with state := .pass r } := by
  induction l generalizing s with
  | nil => simp at hn
  | cons it l ih =>
    rw [List.foldl_cons]
    by_cases hit : n = it.ref
    · subst hit
      have hstep := entry_cancelItem_same s b c r it e fp he hs
      rw [entry_cancelItems_settled, hstep]
      intro e' he'
      rw [hstep] at he'
      cases hdone : e.exitDone with
      | true => simp [hdone] at he'
      | false =>
        simp only [hdone, Bool.false_eq_true, if_false, Option.some.injEq] at he'
        subst he'
        exact ⟨by simp, .inr rfl⟩
    · have hrest : n ∈ l.map (fun it => it.ref) := by simpa [hit] using hn
      exact ih (by rw [entry_cancelItem_other s b r it n hit, he]) hrest

theorem cancelSchedule_cancels (s : State) (b : BinNo) (r : PassReason) : Cancelled s (s.cancelSchedule b r) b r := by
  intro it hit e he c fp hs
  rw [State.cancelSchedule]
  exact entry_cancelItems b r _ (by rwa [entry_setEjector]) hs (List.mem_map_of_mem hit)

/-- An entry in no SCHEDULED state, and not decided yet, stands through the cancellation. -/
theorem entry_cancelSchedule_settled {s : State} {n : Nat} (b : BinNo) (r : PassReason)
    (h : ∀ e, s.entry n = some e → (∀ c fp, e.state ≠ .scheduled c fp) ∧ (e.state.isPass = false ∨ e.exitDone = false)) :
    (s.cancelSchedule b r).entry n = s.entry n := by
  rw [State.cancelSchedule, entry_cancelItems_settled b r, entry_setEjector]
  rwa [entry_setEjector]

/-- R102: one reservation is released for each item. -/
theorem cancelSchedule_pending (s : State) (b : BinNo) (r : PassReason) :
    ((s.cancelSchedule b r).bins.recs.get b).pending =
      (s.bins.recs.get b).pending - (s.ej.get b).schedule.length := by
  have hfold : ∀ (l : List SchedItem) (u : State),
      ((l.foldl (fun acc it => acc.cancelItem b r it) u).bins.recs.get b).pending =
        (u.bins.recs.get b).pending - l.length := by
    intro l
    induction l with
    | nil => simp
    | cons it l ih =>
      intro u
      rw [List.foldl_cons, ih, cancelItem_recs, Quad.get_set_same, List.length_cons]
      simp only
      omega
  exact hfold _ _

/-! ### Counters that a cancellation leaves alone -/

/-- R88 to R91: an exit decision counts what it decides, and a queue that is full. -/
theorem decideExit_counter (s : State) (n : Nat) {k : Counter} (hvanished : k ≠ .vanished) (hpassed : k ≠ .passedToPeer)
    (hend : k ≠ .toEndCatch) (hqueue : k ≠ .queueDrops) : (s.decideExit n).counters.get k = s.counters.get k := by
  have hcount : ∀ (u : State) (j : Counter), k ≠ j → (u.count j).counters.get k = u.counters.get k :=
    fun u j hj => bump_other u.counters j k hj
  have hremove : (s.removeEntry n).counters = s.counters := rfl
  have hsend : ∀ (u : State) (t : Ticket), (u.sendRelease t).counters.get k = u.counters.get k := by
    intro u t
    unfold State.sendRelease
    split
    · rw [enqueueOwn_counter _ _ k hqueue, hcount u _ hpassed]
    · split
      · exact hcount u _ hend
      · exact hcount u _ hend
  unfold State.decideExit
  split
  · rfl
  · split
    · split
      · split
        · rw [hsend, hremove]
        · rw [hcount _ _ hvanished, hremove]
      · rfl
    · rfl
    · rfl

theorem cancelSchedule_missed (s : State) (b : BinNo) (r : PassReason) :
    (s.cancelSchedule b r).counters.get .missed = s.counters.get .missed := by
  have hitem : ∀ (u : State) (it : SchedItem), (u.cancelItem b r it).counters.get .missed = u.counters.get .missed := by
    intro u it
    rw [State.cancelItem, State.requestPass,
      decideExit_counter _ _ (by decide) (by decide) (by decide) (by decide)]
    simp
  exact foldl_keeps (fun u : State => u.counters.get .missed) _ hitem _ _

/-! ### An ejector that enters FAULT (R130) -/

/-- R130: the entries of the schedule pass as BUSY, the pending count falls for each, and the fault shows. -/
theorem enterFault_spec {s : State} {b : BinNo} (h : (s.ej.get b).state ≠ .fault) :
    Cancelled s (s.enterFault b) b .busy ∧
    ((s.enterFault b).bins.recs.get b).pending = (s.bins.recs.get b).pending - (s.ej.get b).schedule.length ∧
    ((s.binCfg b).configured = true → (s.bins.recs.get b).faultShown = false → (s.enterFault b).bins.asked = true) ∧
    (s.enterFault b).counters.get .missed = s.counters.get .missed ∧
    ∀ n, (∀ e, s.entry n = some e → (∀ c fp, e.state ≠ .scheduled c fp) ∧ (e.state.isPass = false ∨ e.exitDone = false)) →
      (s.enterFault b).entry n = s.entry n := by
  rw [State.enterFault, if_neg h]
  generalize hs1 : s.setEjector b { s.ej.get b with state := .fault, shadow := false, pulse := none, recovery := none } = s1
  have hsame : s1.bins = s.bins ∧ s1.counters = s.counters ∧ (∀ n, s1.entry n = s.entry n) ∧ s1.cfg = s.cfg ∧
      (s1.ej.get b).schedule = (s.ej.get b).schedule := by
    subst hs1
    refine ⟨rfl, rfl, fun n => rfl, rfl, ?_⟩
    simp [State.setEjector]
  obtain ⟨hbins, hcount, hentry, hcfg, hsched⟩ := hsame
  obtain ⟨-, -, -, -, hshown⟩ := cancelSchedule_recs s1 b b .busy
  refine ⟨fun it hit e he c fp hst => ?_, ?_, fun hconf hclear => ?_, ?_, fun n hn => ?_⟩
  · rw [State.showFault, entry_setBin]
    exact cancelSchedule_cancels s1 b .busy it (by rwa [hsched]) e (by rwa [hentry]) c fp hst
  · rw [State.showFault, setBin_recs, Quad.get_set_same]
    simp only
    rw [cancelSchedule_pending, hbins, hsched]
  · rw [State.showFault, setBin_asked, Bool.or_eq_true]
    refine .inr ?_
    have hconf' : ((s1.cancelSchedule b .busy).binCfg b).configured = true := by simpa [State.binCfg, hcfg] using hconf
    rw [BinRecord.reportable, hconf', hshown, hbins, hclear]
    simp
  · rw [State.showFault, (setBin_frame _ _ _).2.2.2.2.2.2.2.2.2.2.1, cancelSchedule_missed, hcount]
  · rw [State.showFault, entry_setBin, entry_cancelSchedule_settled b .busy (by simpa only [hentry] using hn), hentry]

end Sys2Proof.Machine

/-! The fire of a head, the two outcomes of a verify, and the end of an ejector's timers (R13, R99, R124 to R130). -/

namespace Sys2Proof.Machine

/-! ### The speed (R13) -/

theorem speed_absent (p : PositionUnit) (h : p.period = none ∨ p.sinceBoundary = none) : p.speed = 0 := by
  unfold PositionUnit.speed
  split
  · next t since ht hs => simp [ht, hs] at h
  · rfl

theorem speed_present {p : PositionUnit} {t since : Nat} (hp : p.period = some t) (ht : 0 < t)
    (hs : p.sinceBoundary = some since) :
    p.speed = if since / 1000 = 0 then 64000000 / t else min (64000000 / t) (64000000 / (since / 1000)) := by
  rw [PositionUnit.speed, hp, hs]
  simp only [boundarySpeed]
  rw [if_neg (Nat.pos_iff_ne_zero.mp ht)]

/-! ### The heads that an event covers (R124) -/

/-- A list splits at the first member that `p` does not hold of. -/
theorem takeWhile_dropWhile_split {α : Type} (p : α → Bool) (heads rest : List α) (hheads : ∀ x ∈ heads, p x = true)
    (hrest : ∀ x, rest.head? = some x → p x = false) :
    (heads ++ rest).takeWhile p = heads ∧ (heads ++ rest).dropWhile p = rest := by
  rw [List.takeWhile_append_of_pos hheads, List.dropWhile_append_of_pos hheads]
  cases rest with
  | nil => simp
  | cons x rest => simp [hrest x rfl]

theorem schedule_fireHead (s : State) (b c : BinNo) (it : SchedItem) :
    ((s.fireHead b it).ej.get c).schedule = (s.ej.get c).schedule := by
  unfold State.fireHead
  split
  · simp
  · split
    · simp
    · by_cases hc : c = b
      · subst hc
        simp [State.fire, State.requestFired, State.setEjector]
      · simp [State.fire, State.requestFired, State.setEjector, Quad.get_set_other _ _ _ _ hc]

theorem schedule_fireEjector {s : State} {ev : StepEvent} {b : BinNo} {heads rest : List SchedItem}
    (h : s.fireEjector ev b = heads.foldl (fun acc it => acc.fireHead b it)
      (s.setEjector b { s.ej.get b with schedule := rest })) :
    ((s.fireEjector ev b).ej.get b).schedule = rest := by
  rw [h, foldl_keeps (fun u : State => (u.ej.get b).schedule) _ (fun u it => schedule_fireHead u b b it)]
  simp [State.setEjector]

/-! ### A head that passes (R87, R124) -/

/-- R80, R87: what the cancellation of an item makes of its entry in SCHEDULED. -/
theorem cancelItem_passes {s : State} {it : SchedItem} {e : TransitEntry} {c : BinNo} {fp : Nat} (b : BinNo)
    (r : PassReason) (he : s.entry it.ref = some e) (hs : e.state = .scheduled c fp) :
    (s.cancelItem b r it).ej = s.ej ∧
    ((s.cancelItem b r it).bins.recs.get b).pending = (s.bins.recs.get b).pending - 1 ∧
    (e.exitDone = false → (s.cancelItem b r it).entry it.ref = some { e with state := .pass r }) ∧
    (e.exitDone = true → (s.cancelItem b r it).entry it.ref = none ∧ ∃ s1 : State, SameBut [.trk, .bins] s s1 ∧
      s1.entry it.ref = some { e with state := .pass r } ∧ s.cancelItem b r it = s1.decideExit it.ref) := by
  have hentry := entry_cancelItem_same s b c r it e fp he hs
  have hupdated : ((s.unreserve b).updateEntry it.ref (passedEntry r)).entry it.ref = some { e with state := .pass r } := by
    rw [entry_updateEntry _ _ _ _ (passedEntry_ref r), entry_unreserve, he]
    simp [entry_ref s it.ref e he, passedEntry, hs]
  refine ⟨by simp, by simp, fun hdone => by simp [hentry, hdone], fun hdone => ⟨by simp [hentry, hdone], _, ?_, hupdated, rfl⟩⟩
  simp [sameBut_iff]

/-! ### A head that fires (R124, R127) -/

theorem firedEntry_ref (e : TransitEntry) : (firedEntry e).ref = e.ref := by
  unfold firedEntry
  split <;> rfl

theorem fire_spec {s : State} {ref : Nat} {e : TransitEntry} (b : BinNo) (he : s.entry ref = some e) :
    (s.fire b ref).bins = s.bins ∧
    (s.fire b ref).ej.get b = { s.ej.get b with
      state := .pulsing, shadow := true, pulse := some ((s.binCfg b).pulseMs * 1000000),
      watch := (s.ej.get b).watch ++ [s.watchItem b e] } ∧
    ∀ c fp, e.state = .scheduled c fp → (s.fire b ref).entry ref = some { e with state := .fired c fp false } := by
  refine ⟨by simp [State.fire, State.requestFired], ?_, fun c fp hs => ?_⟩
  · simp [State.fire, State.requestFired, State.setEjector, he, Timer.start]
  · rw [State.fire, State.requestFired, entry_updateEntry _ _ _ _ firedEntry_ref, entry_setEjector, he]
    simp [entry_ref s ref e he, firedEntry, hs]

/-- Settles O33. -/
theorem fireHeadOutcomes : Obligations.FireHeadOutcomes := by
  unfold Obligations.FireHeadOutcomes
  refine ⟨fun p => ⟨speed_absent p, fun t since hp ht hs => ⟨fun hlong => ?_, fun hshort => ?_⟩⟩, ?_, fun s ev => rfl, ?_⟩
  · rw [speed_present hp ht hs, if_neg (by omega)]
  · rw [speed_present hp ht hs, if_pos (by omega)]
  · intro s ev b heads rest hsched hheads hrest
    obtain ⟨htake, hdrop⟩ := takeWhile_dropWhile_split (fun it : SchedItem => ev.covers s.cfg.span it.firePos)
      heads rest hheads hrest
    have hfires : s.fireEjector ev b = heads.foldl (fun acc it => acc.fireHead b it)
        (s.setEjector b { s.ej.get b with schedule := rest }) := by
      rw [State.fireEjector, hsched, htake, hdrop]
    exact ⟨hfires, schedule_fireEjector hfires⟩
  · intro s b it e b' fp he hs t passes
    refine ⟨fun hslow => ?_, fun hfast hbusy => ?_, fun hfast hready => ?_⟩
    · have ht : t = s.cancelItem b .slow it := if_pos hslow
      simp only [passes, ht]
      exact cancelItem_passes b .slow he hs
    · have ht : t = s.cancelItem b .busy it := by
        simp only [t, State.fireHead, if_neg (Nat.not_lt.mpr hfast), if_pos hbusy]
      simp only [passes, ht]
      exact cancelItem_passes b .busy he hs
    · have ht : t = s.fire b it.ref := by
        simp only [t, State.fireHead, if_neg (Nat.not_lt.mpr hfast), if_neg (not_not.mpr hready)]
      obtain ⟨hbins, hej, hentry⟩ := fire_spec b he
      rw [ht, hej]
      exact ⟨hentry b' fp hs, hbins, rfl, rfl, rfl, s.watchItem b e, rfl, rfl, rfl, rfl, rfl, rfl, rfl, rfl⟩

/-! ### A verify clear (R99, R128) -/

/-- R99: the state after a rise of the fill. -/
theorem afterFill_fields (c : BinSettings) (r : BinRecord) :
    (afterFill c r).fill = r.fill ∧ (afterFill c r).pending = r.pending ∧
    (r.state = .opened ∨ r.state = .near → (afterFill c r).state =
      if r.fill = c.capacity then .full else if c.near ≤ 16 * r.fill / c.capacity then .near else r.state) ∧
    (r.state ≠ .opened → r.state ≠ .near → (afterFill c r).state = r.state) := by
  have htakes : r.state.takes = true ↔ r.state = .opened ∨ r.state = .near := by simp [BinState.takes]
  by_cases hstate : r.state = .opened ∨ r.state = .near
  · rw [afterFill, if_pos (htakes.mpr hstate)]
    refine ⟨?_, ?_, fun _ => ?_, fun hopened hnear => absurd hstate (by simp [hopened, hnear])⟩
    · split_ifs <;> rfl
    · split_ifs <;> rfl
    · rcases hstate with hstate | hstate
      · simp only [hstate, if_true, stateByFill, sixteenths]
        split_ifs with hcap hnear
        · rfl
        · exact if_pos hnear
        · exact if_neg hnear
      · simp only [hstate, reduceCtorEq, if_false, ite_self]
        split_ifs <;> simp_all
  · rw [afterFill, if_neg (fun h => hstate (htakes.mp h))]
    exact ⟨rfl, rfl, fun h => absurd h hstate, fun _ _ => rfl⟩

/-- R99, R102: a verify clear of an item that a reservation stands for. -/
theorem binVerifyClear_spec {s : State} (b : BinNo) (h : 0 < (s.bins.recs.get b).pending) :
    let old := s.bins.recs.get b
    let t := s.binVerifyClear b
    (t.bins.recs.get b).fill = old.fill + 1 ∧ (t.bins.recs.get b).pending = old.pending - 1 ∧
    (old.state = .opened ∨ old.state = .near → (t.bins.recs.get b).state =
      if old.fill + 1 = (s.binCfg b).capacity then .full
      else if (s.binCfg b).near ≤ 16 * (old.fill + 1) / (s.binCfg b).capacity then .near else old.state) ∧
    (old.state ≠ .opened → old.state ≠ .near → (t.bins.recs.get b).state = old.state) ∧
    ((s.binCfg b).configured = true → (t.bins.recs.get b).state ≠ old.state → t.bins.asked = true) ∧
    OtherBins b s t := by
  intro old t
  have ht : t = s.setBin b (afterFill (s.binCfg b) { old with fill := old.fill + 1, pending := old.pending - 1 }) :=
    if_neg (Nat.pos_iff_ne_zero.mp h)
  obtain ⟨hfill, hpending, htakes, hstays⟩ :=
    afterFill_fields (s.binCfg b) { old with fill := old.fill + 1, pending := old.pending - 1 }
  have hrecord : t.bins.recs.get b =
      afterFill (s.binCfg b) { old with fill := old.fill + 1, pending := old.pending - 1 } := by
    rw [ht, setBin_recs, Quad.get_set_same]
  refine ⟨?_, ?_, ?_, ?_, fun hconf hchanged => ?_, fun c hc => ?_⟩
  · rw [hrecord, hfill]
  · rw [hrecord, hpending]
  · rwa [hrecord]
  · rwa [hrecord]
  · rw [ht, setBin_asked, Bool.or_eq_true]
    refine .inr ?_
    rw [hrecord] at hchanged
    rw [BinRecord.reportable, hconf, bne_iff_ne.mpr (Ne.symm hchanged)]
    rfl
  · rw [ht, setBin_recs, Quad.get_set_other _ _ _ _ hc]

theorem requestEjected_keeps (s : State) (ref : Nat) : (s.requestEjected ref).bins = s.bins ∧
    (s.requestEjected ref).ej = s.ej ∧ (s.requestEjected ref).counters = s.counters ∧
    (s.requestEjected ref).cfg = s.cfg := by
  unfold State.requestEjected
  split
  · split <;> exact ⟨rfl, rfl, rfl, rfl⟩
  · exact ⟨rfl, rfl, rfl, rfl⟩

theorem requestEjected_fired {s : State} {ref : Nat} {e : TransitEntry} (he : s.entry ref = some e)
    (hs : ∃ c fp d, e.state = .fired c fp d) :
    (s.requestEjected ref).trk.transit = s.trk.transit.filter (fun x => decide (x.ref ≠ ref)) := by
  obtain ⟨c, fp, d, hs⟩ := hs
  rw [State.requestEjected, he]
  simp only [hs]
  exact List.filter_congr (fun x _ => by rw [Bool.eq_iff_iff, bne_iff_ne, decide_eq_true_iff])

/-! ### A verify blocked (R80, R129, R130) -/

theorem missedEntry_ref (e : TransitEntry) : (missedEntry e).ref = e.ref := by
  unfold missedEntry
  split <;> rfl

/-- R80, R87: a verify blocked makes a FIRED entry pass as MISSED, or decides it. -/
theorem entry_requestMissed {s : State} {ref : Nat} {e : TransitEntry} (he : s.entry ref = some e)
    (hs : ∃ c fp d, e.state = .fired c fp d) : (s.requestMissed ref).entry ref =
      if e.exitDone then none
      else some { e with
        state := .pass .missed, ticket := { e.ticket with missed := min 3 (e.ticket.missed + 1) } } := by
  obtain ⟨c, fp, d, hs⟩ := hs
  have hupdated : (s.updateEntry ref missedEntry).entry ref = some { e with
      state := .pass .missed, ticket := { e.ticket with missed := min 3 (e.ticket.missed + 1) } } := by
    rw [entry_updateEntry _ _ _ _ missedEntry_ref, he]
    simp [entry_ref s ref e he, missedEntry, hs]
  rw [State.requestMissed, entry_decideExit, hupdated]
  cases hdone : e.exitDone <;> simp [EntryState.isPass]

/-- R80: a verify blocked leaves an entry in SCHEDULED. -/
theorem entry_requestMissed_scheduled {s : State} {ref n : Nat} {e : TransitEntry} {c : BinNo} {fp : Nat}
    (he : s.entry n = some e) (hs : e.state = .scheduled c fp) : (s.requestMissed ref).entry n = some e := by
  have hupdated : (s.updateEntry ref missedEntry).entry n = some e := by
    rw [entry_updateEntry _ _ _ _ missedEntry_ref, he]
    simp [missedEntry, hs]
  rw [State.requestMissed, entry_decideExit, hupdated, if_neg]
  rintro ⟨rfl, e', he', hpass, -⟩
  rw [hupdated] at he'
  cases he'
  simp [EntryState.isPass, hs] at hpass

theorem requestMissed_keeps (s : State) (ref : Nat) : (s.requestMissed ref).bins = s.bins ∧
    (s.requestMissed ref).ej = s.ej ∧ (s.requestMissed ref).cfg = s.cfg ∧
    (s.requestMissed ref).counters.get .missed = s.counters.get .missed := by
  have hcount := decideExit_counter (s.updateEntry ref missedEntry) ref
    (k := .missed) (by decide) (by decide) (by decide) (by decide)
  exact ⟨by simp [State.requestMissed], by simp [State.requestMissed], by simp [State.requestMissed],
    hcount.trans (by simp)⟩

/-- R129: the miss is counted, and the reservation of an item that is not detached is given back. -/
def State.missCounted (s : State) (b : BinNo) (w : WatchItem) : State :=
  let s1 := (s.setEjector b { s.ej.get b with misses := min 2 ((s.ej.get b).misses + 1) }).count .missed
  if w.detached then s1 else s1.unreserve b

/-- R129: what a verify blocked changes before it looks at the misses in a row. -/
def State.blockedOnce (s : State) (b : BinNo) (w : WatchItem) : State := (s.missCounted b w).requestMissed w.ref

theorem verifiedBlocked_eq (s : State) (b : BinNo) (w : WatchItem) : s.verifiedBlocked b w =
    if min 2 ((s.ej.get b).misses + 1) = 2 then (s.blockedOnce b w).enterFault b else s.blockedOnce b w := rfl

/-- R129: the reservation that a blocked item gives back. -/
theorem missCounted_recs (s : State) (b : BinNo) (w : WatchItem) : (s.missCounted b w).bins.recs =
    if w.detached then s.bins.recs
    else s.bins.recs.set b { s.bins.recs.get b with pending := (s.bins.recs.get b).pending - 1 } := by
  unfold State.missCounted
  split <;> simp

theorem missCounted_keeps (s : State) (b : BinNo) (w : WatchItem) :
    (s.missCounted b w).ej = s.ej.set b { s.ej.get b with misses := min 2 ((s.ej.get b).misses + 1) } ∧
    (∀ n, (s.missCounted b w).entry n = s.entry n) ∧
    (s.missCounted b w).counters = s.counters.bump .missed ∧ (s.missCounted b w).cfg = s.cfg := by
  unfold State.missCounted
  split <;> simp [State.setEjector, State.count] <;> exact fun _ => rfl

/-- R129, R102: what a blocked item leaves of the records, the ejectors, the counter and the settings. -/
theorem blockedOnce_spec (s : State) (b : BinNo) (w : WatchItem) :
    (s.blockedOnce b w).bins.recs = (if w.detached then s.bins.recs
      else s.bins.recs.set b { s.bins.recs.get b with pending := (s.bins.recs.get b).pending - 1 }) ∧
    (s.blockedOnce b w).ej = s.ej.set b { s.ej.get b with misses := min 2 ((s.ej.get b).misses + 1) } ∧
    (s.blockedOnce b w).counters.get .missed = (s.counters.bump .missed).get .missed ∧
    (s.blockedOnce b w).cfg = s.cfg := by
  obtain ⟨hbins, hej, hcfg, hcount⟩ := requestMissed_keeps (s.missCounted b w) w.ref
  obtain ⟨hej', -, hcount', hcfg'⟩ := missCounted_keeps s b w
  rw [State.blockedOnce, hbins, hej, hcfg, hcount]
  exact ⟨missCounted_recs s b w, hej', by rw [hcount'], hcfg'⟩

/-- R80: what a verify blocked does to the entry that the item names, and to those in SCHEDULED. -/
theorem blockedOnce_entry (s : State) (b : BinNo) (w : WatchItem) :
    (∀ e, s.entry w.ref = some e → (∃ c fp d, e.state = .fired c fp d) → (s.blockedOnce b w).entry w.ref =
      if e.exitDone then none
      else some { e with
        state := .pass .missed, ticket := { e.ticket with missed := min 3 (e.ticket.missed + 1) } }) ∧
    ∀ n e c fp, s.entry n = some e → e.state = .scheduled c fp → (s.blockedOnce b w).entry n = some e := by
  obtain ⟨-, hentry, -, -⟩ := missCounted_keeps s b w
  refine ⟨fun e he hs => entry_requestMissed (by rwa [hentry]) hs, fun n e c fp he hs => ?_⟩
  exact entry_requestMissed_scheduled (by rwa [hentry]) hs

end Sys2Proof.Machine

/-! The two outcomes of a verify, and the end of an ejector's timers, settled (R80, R99, R125, R128 to R130). -/

namespace Sys2Proof.Machine

/-- R128: an item decided clear. -/
theorem verifiedClear_spec (s : State) (b : BinNo) (w : WatchItem) :
    let t := s.verifiedClear b w
    t.ej = s.ej.set b { s.ej.get b with misses := 0 } ∧ t.counters = s.counters.bump .ejected ∧
    (∀ e, s.entry w.ref = some e → (∃ c fp d, e.state = .fired c fp d) →
      t.trk.transit = s.trk.transit.filter (fun x => decide (x.ref ≠ w.ref))) ∧
    (w.detached = true → t.bins = s.bins) ∧
    (w.detached = false → ∃ s1 : State, s1.bins = s.bins ∧ s1.cfg = s.cfg ∧ t.bins = (s1.binVerifyClear b).bins) := by
  intro t
  obtain ⟨s1, hs1⟩ : ∃ s1, s1 = (s.setEjector b { s.ej.get b with misses := 0 }).requestEjected w.ref := ⟨_, rfl⟩
  obtain ⟨hbins, hej, hcount, hcfg⟩ := requestEjected_keeps (s.setEjector b { s.ej.get b with misses := 0 }) w.ref
  rw [← hs1] at hbins hej hcount hcfg
  have ht : t = (if w.detached then s1 else s1.binVerifyClear b).count .ejected := by
    rw [hs1]
    rfl
  refine ⟨?_, ?_, fun e he hs => ?_, fun hdet => ?_, fun hdet => ⟨s1, hbins, hcfg, ?_⟩⟩
  · rw [ht]
    split <;> simp [hej, State.setEjector]
  · rw [ht]
    split <;> simp [State.count, hcount]
  · have hmine : s1.trk.transit = s.trk.transit.filter (fun x => decide (x.ref ≠ w.ref)) := by
      rw [hs1]
      exact requestEjected_fired (by rwa [entry_setEjector]) hs
    rw [ht, ← hmine]
    split <;> simp
  · rw [ht, hdet, if_pos rfl]
    simp [hbins]
  · rw [ht, hdet]
    simp

theorem enterFault_own {s : State} {b : BinNo} (h : (s.ej.get b).state ≠ .fault) :
    (s.enterFault b).ej.get b = { s.ej.get b with
      state := .fault, shadow := false, pulse := none, recovery := none, schedule := [] } := by
  rw [enterFault_ej s b h, Quad.get_set_same]

/-- R130: the second miss in a row takes the ejector to FAULT, unless it is there already. -/
theorem blockedTwice_spec {s : State} {b : BinNo} {w : WatchItem} (h : (s.ej.get b).state ≠ .fault) :
    let t := (s.blockedOnce b w).enterFault b
    (t.ej.get b).schedule = [] ∧ (t.ej.get b).shadow = false ∧ (t.bins.recs.get b).faultShown = true ∧
    Cancelled s t b .busy ∧
    ((s.binCfg b).configured = true → (s.bins.recs.get b).faultShown = false → t.bins.asked = true) ∧
    (t.bins.recs.get b).pending = (s.bins.recs.get b).pending - (if w.detached then 0 else 1) -
      (s.ej.get b).schedule.length := by
  intro t
  obtain ⟨hrecs, hej, -, hcfg⟩ := blockedOnce_spec s b w
  obtain ⟨-, hscheduled⟩ := blockedOnce_entry s b w
  have hejb : (s.blockedOnce b w).ej.get b =
      { s.ej.get b with misses := min 2 ((s.ej.get b).misses + 1) } := by rw [hej, Quad.get_set_same]
  have hstate : ((s.blockedOnce b w).ej.get b).state ≠ .fault := by rwa [hejb]
  have hrecord : ((s.blockedOnce b w).bins.recs.get b).faultShown = (s.bins.recs.get b).faultShown ∧
      ((s.blockedOnce b w).bins.recs.get b).pending =
        (s.bins.recs.get b).pending - (if w.detached then 0 else 1) := by
    rw [hrecs]
    split <;> simp
  obtain ⟨hshown, hpending⟩ := hrecord
  obtain ⟨hcancelled, hfell, hasked, -, -⟩ := enterFault_spec hstate
  obtain ⟨hfaultShown, -⟩ := enterFault_recs (s.blockedOnce b w) b hstate
  have htej := enterFault_own hstate
  refine ⟨by rw [htej], by rw [htej], hfaultShown, ?_, fun hconf hclear => ?_, ?_⟩
  · intro it hit e he c fp hs
    exact hcancelled it (by rwa [hejb]) e (hscheduled it.ref e c fp he hs) c fp hs
  · have hconf' : ((s.blockedOnce b w).binCfg b).configured = true := by rwa [State.binCfg, hcfg]
    exact hasked hconf' (by rwa [hshown])
  · rw [hfell, hpending, hejb]

/-- R129, R130: one blocked item leaves the ejector in order; a second in a row takes it to FAULT. -/
theorem verifiedBlocked_cases (s : State) (b : BinNo) (w : WatchItem) :
    (s.ej.get b).misses = 0 ∧ s.verifiedBlocked b w = s.blockedOnce b w ∨
    1 ≤ (s.ej.get b).misses ∧ (s.ej.get b).state = .fault ∧ s.verifiedBlocked b w = s.blockedOnce b w ∨
    1 ≤ (s.ej.get b).misses ∧ (s.ej.get b).state ≠ .fault ∧
      s.verifiedBlocked b w = (s.blockedOnce b w).enterFault b := by
  obtain ⟨-, hej, -, -⟩ := blockedOnce_spec s b w
  rw [verifiedBlocked_eq]
  by_cases hfirst : (s.ej.get b).misses = 0
  · exact .inl ⟨hfirst, if_neg (by omega)⟩
  · rw [if_pos (by omega)]
    refine .inr ?_
    by_cases hfault : (s.ej.get b).state = .fault
    · refine .inl ⟨by omega, hfault, ?_⟩
      rw [State.enterFault, if_pos (by rw [hej, Quad.get_set_same]; exact hfault)]
    · exact .inr ⟨by omega, hfault, rfl⟩

/-- Settles O34. -/
theorem verifyOutcomes : Obligations.VerifyOutcomes := by
  unfold Obligations.VerifyOutcomes
  intro s b w t
  refine ⟨fun hclear => ?_, fun hblocked => ?_⟩
  · have ht : t = s.verifiedClear b w := by simp [t, State.verifyItem, hclear]
    obtain ⟨hej, hcount, hentry, hdetached, hbin⟩ := verifiedClear_spec s b w
    rw [← ht] at hej hcount hentry hdetached hbin
    refine ⟨by rw [hej, Quad.get_set_same], by rw [hej, Quad.get_set_same], hcount, hentry, hdetached, ?_⟩
    intro hdet hpending
    obtain ⟨s1, hbins, hcfg, htbins⟩ := hbin hdet
    have hcfg' : s1.binCfg b = s.binCfg b := by rw [State.binCfg, hcfg, State.binCfg]
    have hspec := binVerifyClear_spec (s := s1) b (by rwa [hbins])
    unfold OtherBins at hspec ⊢
    simp only [hbins, hcfg'] at hspec
    rw [htbins]
    exact hspec
  · have ht : t = s.verifiedBlocked b w := by simp [t, State.verifyItem, hblocked]
    obtain ⟨hrecs, hej, hcount, -⟩ := blockedOnce_spec s b w
    obtain ⟨hentry, -⟩ := blockedOnce_entry s b w
    have hejb : (s.blockedOnce b w).ej.get b =
        { s.ej.get b with misses := min 2 ((s.ej.get b).misses + 1) } := by rw [hej, Quad.get_set_same]
    have hrecords : (w.detached = true → (s.blockedOnce b w).bins.recs = s.bins.recs) ∧
        (w.detached = false → (s.blockedOnce b w).bins.recs =
          s.bins.recs.set b { s.bins.recs.get b with pending := (s.bins.recs.get b).pending - 1 }) := by
      rw [hrecs]
      exact ⟨fun hdet => if_pos hdet, fun hdet => if_neg (by simp [hdet])⟩
    rcases verifiedBlocked_cases s b w with ⟨hfirst, heq⟩ | ⟨hsecond, hfault, heq⟩ | ⟨hsecond, hfault, heq⟩
    · rw [ht, heq, hejb]
      exact ⟨rfl, hcount, hentry, fun _ => hrecords, fun _ => rfl, fun h => absurd h (by omega),
        fun h => absurd h (by omega)⟩
    · rw [ht, heq, hejb]
      exact ⟨rfl, hcount, hentry, fun _ => hrecords, fun _ => rfl, fun _ => hfault, fun _ h => absurd hfault h⟩
    · have hstate : ((s.blockedOnce b w).ej.get b).state ≠ .fault := by rwa [hejb]
      obtain ⟨-, -, -, hmissed, hsettled⟩ := enterFault_spec hstate
      have htej := enterFault_own hstate
      rw [ht, heq]
      refine ⟨by rw [htej, hejb], hmissed.trans hcount, fun e he hs => ?_,
        fun h => absurd h (by simp [hfault, Nat.pos_iff_ne_zero.mp hsecond]), fun h => absurd h (by omega), fun _ => by rw [htej], fun _ _ => blockedTwice_spec hfault⟩
      rw [hsettled, hentry e he hs]
      intro e' he'
      rw [hentry e he hs] at he'
      split at he'
      · simp at he'
      · next hdone =>
        cases he'
        exact ⟨by simp, .inr (by simpa using hdone)⟩

/-! ### The ends of an ejector's timers (R125, R130) -/

/-- R130, R111: an ejector that enters FAULT outside a step event. -/
theorem sameBut_enterFault (s : State) (b : BinNo) :
    SameBut [.retention, .trk, .bins, .ej, .port, .ltu, .pins, .counters] s (s.enterFault b) := by
  simp [sameBut_iff]

/-- R125, R130: what the end of a recovery time comes to. -/
theorem recoveryEnds_due {u : State} {b : BinNo} (home : Bool) (hstate : (u.ej.get b).state = .recovering)
    (hdue : Timer.due (u.ej.get b).recovery = true) :
    ((u.binCfg b).homeFitted = true → home = false → u.recoveryEnds b home = (u.senseHome b home).enterFault b) ∧
    ((u.binCfg b).homeFitted = false ∨ home = true → (u.recoveryEnds b home).bins = u.bins ∧
      (u.recoveryEnds b home).ej = u.ej.set b { u.ej.get b with state := .ready, recovery := none } ∧
      SameBut [.ej, .pins] u (u.recoveryEnds b home)) := by
  rw [State.recoveryEnds, if_pos ⟨hstate, hdue⟩]
  cases hfitted : (u.binCfg b).homeFitted with
  | false => simp [State.setEjector, sameBut_iff]
  | true => cases home <;> simp [State.setEjector, State.senseHome, sameBut_iff]

/-- Settles O36. -/
theorem ejectorTimersEnd : Obligations.EjectorTimersEnd := by
  unfold Obligations.EjectorTimersEnd
  refine ⟨fun s dt b hstate htimer hasked => ?_, fun s dt b home hstate htimer hasked => ?_⟩
  · have hcond : ((s.elapse dt).ej.get b).state = .pulsing ∧ Timer.due ((s.elapse dt).ej.get b).pulse = true :=
      ⟨by simpa using hstate, by simpa using htimer.due⟩
    have heff : effect (.pulseTimerExpiry dt b) (s.elapse dt) = (s.elapse dt).setEjector b
        (((s.elapse dt).ej.get b).recover (s.binCfg b).recoveryMs) := if_pos hcond
    refine ⟨_, exec_answers heff, ?_, ?_⟩
    · simp [State.setEjector, Ejector.recover, Timer.start]
    · exact SameBut.finish_quiet (by simp [sameBut_iff, State.setEjector]) (by simpa using hasked)
  · have heff : effect (.recoveryTimerExpiry dt b home) (s.elapse dt) = (s.elapse dt).recoveryEnds b home := rfl
    obtain ⟨hfault, hready⟩ := recoveryEnds_due (u := s.elapse dt) (b := b) home (by simpa using hstate)
      (by simpa using htimer.due)
    refine ⟨fun hhome => ?_, fun hfitted hnothome => ?_⟩
    · obtain ⟨hbins, hej, hsame⟩ := hready hhome
      refine ⟨_, exec_answers heff, by simpa using hej, hsame.finish_quiet ?_⟩
      rw [hbins]
      simpa using hasked
    · generalize hu : (s.elapse dt).senseHome b home = u at hfault
      have hsensed : u.bins = (s.elapse dt).bins ∧ u.ej = (s.elapse dt).ej ∧ u.running = s.running ∧
          u.cfg = s.cfg ∧ SameBut [.pins] (s.elapse dt) u := by
        subst hu
        exact ⟨rfl, rfl, rfl, rfl, by simp [sameBut_iff, State.senseHome]⟩
      obtain ⟨hbins, hej, hrunning, hcfg, hsame⟩ := hsensed
      have hnot : (u.ej.get b).state ≠ .fault := by
        rw [hej]
        simp [hstate]
      have hown := enterFault_own hnot
      obtain ⟨hshown, hothers⟩ := enterFault_recs u b hnot
      obtain ⟨-, -, hasks, -, -⟩ := enterFault_spec hnot
      rw [hfault hfitted hnothome] at heff
      refine ⟨_, exec_answers heff, ?_⟩
      simp only [finish_frame, finish_bins]
      refine ⟨by rw [hown], by rw [hown], by rw [hown], by rw [hown], by rw [hown], ?_, hshown,
        fun hrun hconf hclear => ?_, fun c hc => ?_, fun c hc => ?_, ?_⟩
      · rw [hown, hej]
        simp
      · refine finish_period (hasks ?_ ?_) ?_
        · rwa [State.binCfg, hcfg]
        · rw [hbins]
          simpa using hclear
        · rw [running_of_ctl (s := u) (by simp), hrunning, hrun]
      · simp only [finish_bins]
        rw [hothers c hc, hbins]
        simp
      · rw [enterFault_ej u b hnot, Quad.get_set_other _ _ _ _ hc, hej]
      · refine SameBut.finish ?_ (by decide)
        exact (hsame.mono (by decide)).trans (sameBut_enterFault u b)

end Sys2Proof.Machine

/-! What a step event covers, and what its sample does to an extent (R4, R86, R87, R127, R134). -/

namespace Sys2Proof.Machine

/-! ### Covered positions (R4) -/

/-- R4: the old gate position, from the event's position and its advance. -/
theorem posSub_back {span a old : Nat} (ha : a < span) : posSub span ((old + a) % span) a = old % span := by
  refine posSub_add a (Nat.mod_lt _ (by omega)) ?_
  rw [Nat.add_mod_mod, Nat.mod_mod, Nat.add_comm]

/-- R4: the event covers the positions 1 to its advance beyond the old gate position. -/
theorem covers_iff {ev : StepEvent} {span a old : Nat} (ha : a < span) (hadv : ev.adv = some a)
    (hpos : ev.pos = (old + a) % span) (q : Nat) :
    ev.covers span q = true ↔ ∃ i, 1 ≤ i ∧ i ≤ a ∧ q % span = (old + i) % span := by
  have hspan : 0 < span := by omega
  have hback : posSub span ev.pos a = old % span := by rw [hpos, posSub_back ha]
  rw [StepEvent.covers, hadv]
  simp only [hback, decide_eq_true_eq]
  refine ⟨fun ⟨hlow, hhigh⟩ => ⟨_, hlow, hhigh, ?_⟩, fun ⟨i, hlow, hhigh, hq⟩ => ?_⟩
  · rw [← add_posSub hspan q (old % span), Nat.add_mod, Nat.mod_mod, ← Nat.add_mod]
  · have hi : posSub span q (old % span) = i := by
      refine posSub_add _ (by omega) ?_
      rw [hq]
      simp [Nat.add_mod]
    rw [hi]
    exact ⟨hlow, hhigh⟩

/-- An extent is touched when one of its positions is covered. -/
theorem touches_iff {ev : StepEvent} {span a old : Nat} (ha : a < span) (hadv : ev.adv = some a)
    (hpos : ev.pos = (old + a) % span) (first : Nat) {n : Nat} (hn : n ≤ span) :
    ev.touches span first n = true ↔ ∃ j, j < n ∧ ev.covers span (first + j) = true := by
  have hspan : 0 < span := by omega
  have hback : posSub span ev.pos a = old % span := by rw [hpos, posSub_back ha]
  have htouch : ev.touches span first n = true ↔
      n ≠ 0 ∧ (ev.covers span first = true ∨ a ≠ 0 ∧ posSub span (old % span + 1) first < n) := by
    rw [StepEvent.touches, hadv]
    simp [hback, inExtent]
  rw [htouch]
  constructor
  · rintro ⟨hn0, hfirst | ⟨ha0, hin⟩⟩
    · exact ⟨0, by omega, hfirst⟩
    · refine ⟨_, hin, (covers_iff ha hadv hpos _).mpr ⟨1, by omega, by omega, ?_⟩⟩
      rw [add_posSub hspan, Nat.mod_add_mod]
  · rintro ⟨j, hj, hcov⟩
    obtain ⟨i, hlow, hhigh, heq⟩ := (covers_iff ha hadv hpos _).mp hcov
    refine ⟨by omega, ?_⟩
    by_cases hij : j < i
    · refine .inl ((covers_iff ha hadv hpos _).mpr ⟨i - j, by omega, by omega, ?_⟩)
      refine Nat.ModEq.add_right_cancel' j ?_
      rw [show old + (i - j) + j = old + i by omega]
      exact heq
    · have hstart : posSub span (old % span + 1) first = j - (i - 1) := by
        refine posSub_add first (by omega) ?_
        rw [Nat.mod_add_mod]
        refine Nat.ModEq.add_right_cancel' (i - 1) ?_
        rw [show first + (j - (i - 1)) + (i - 1) = first + j by omega, show old + 1 + (i - 1) = old + i by omega]
        exact heq
      exact .inr ⟨by omega, by omega⟩

/-! ### The items of a watch (R127, R134) -/

/-- R134: a discontinuity covers nothing, and no item samples or is decided. -/
theorem discontinuity_covers {ev : StepEvent} (span : Nat) (h : ev.adv = none) :
    (∀ q, ev.covers span q = false) ∧
    ∀ (blocked : Bool) (w : WatchItem), w.sampled ev span blocked = w ∧ w.decided ev span = false := by
  refine ⟨fun q => ?_, fun blocked w => ⟨?_, ?_⟩⟩
  · rw [StepEvent.covers, h]
  · rw [WatchItem.sampled, h]
    simp
  · rw [WatchItem.decided, h]
    simp

theorem sampled_fresh {ev : StepEvent} (span : Nat) (blocked : Bool) {w : WatchItem} (h : w.fresh = true) :
    w.sampled ev span blocked = w := by
  rw [WatchItem.sampled, h]
  rfl

theorem sampled_seasoned {ev : StepEvent} {a : Nat} (span : Nat) (blocked : Bool) {w : WatchItem} (h : w.fresh = false)
    (hadv : ev.adv = some a) : w.sampled ev span blocked =
      { w with blocked := w.blocked || (blocked && (w.overdue || ev.touches span w.start w.length)) } := by
  rw [WatchItem.sampled, h, hadv]
  rfl

theorem sampled_rest (ev : StepEvent) (span : Nat) (blocked : Bool) (w : WatchItem) :
    (w.sampled ev span blocked).fresh = w.fresh ∧ (w.sampled ev span blocked).overdue = w.overdue ∧
    (w.sampled ev span blocked).start = w.start ∧ (w.sampled ev span blocked).length = w.length := by
  unfold WatchItem.sampled
  split <;> exact ⟨rfl, rfl, rfl, rfl⟩

theorem decided_iff {ev : StepEvent} {a : Nat} (span : Nat) (w : WatchItem) (hadv : ev.adv = some a) :
    w.decided ev span = true ↔ w.fresh = false ∧
      (w.overdue = true ∨ ev.covers span ((w.start + w.length - 1) % span) = true) := by
  rw [WatchItem.decided, hadv]
  simp

/-- R127: the watch of ejector `b` after the event's sample. -/
def State.sampledWatch (s : State) (ev : StepEvent) (b : BinNo) : List WatchItem :=
  (s.ej.get b).watch.map (WatchItem.sampled ev s.cfg.span (s.pins.verifyBlocked.get b))

/-- R127, R129: the items that an event decides are verified in the order of the watch; the others stay. -/
theorem verifyEjector_eq (s : State) (ev : StepEvent) (b : BinNo) : s.verifyEjector ev b =
    ((s.sampledWatch ev b).filter (fun w => w.decided ev s.cfg.span)).foldl (fun acc w => acc.verifyItem b w)
      (s.setEjector b { s.ej.get b with
        watch := (s.sampledWatch ev b).filter (fun w => !w.decided ev s.cfg.span) }) := rfl

theorem verifyEjector_none {s : State} {ev : StepEvent} {b : BinNo}
    (h : ∀ w ∈ s.sampledWatch ev b, w.decided ev s.cfg.span = false) :
    s.verifyEjector ev b = s.setEjector b { s.ej.get b with watch := s.sampledWatch ev b } := by
  have hdecided : (s.sampledWatch ev b).filter (fun w => w.decided ev s.cfg.span) = [] := by
    simpa [List.filter_eq_nil_iff] using h
  have hstays : (s.sampledWatch ev b).filter (fun w => !w.decided ev s.cfg.span) = s.sampledWatch ev b := by
    rw [List.filter_eq_self]
    intro w hw
    rw [h w hw]
    rfl
  rw [verifyEjector_eq, hdecided, hstays, List.foldl_nil]

theorem verifyEjector_one {s : State} {ev : StepEvent} {b : BinNo} {w : WatchItem} (h : s.sampledWatch ev b = [w])
    (hdecided : w.decided ev s.cfg.span = true) :
    s.verifyEjector ev b = (s.setEjector b { s.ej.get b with watch := [] }).verifyItem b w := by
  rw [verifyEjector_eq, h, List.filter_cons_of_pos hdecided, List.filter_nil, List.foldl_cons, List.foldl_nil,
    List.filter_cons_of_neg (by simp [hdecided]), List.filter_nil]

/-- R127: the ejectors take the event in order of bin number (log 29). -/
theorem verifies_eq (s : State) (ev : StepEvent) : s.verifies ev =
    (((s.verifyEjector ev .bin1).verifyEjector ev .bin2).verifyEjector ev .bin3).verifyEjector ev .bin4 := by
  simp only [State.verifies, allBins, List.foldl_cons, List.foldl_nil]

/-- R87: where no entry is in PASS, none is decided. -/
theorem decideExits_of_no_pass {s : State} (refs : List Nat) (h : ∀ e ∈ s.trk.transit, ∀ r, e.state ≠ .pass r) :
    refs.foldl State.decideExit s = s := by
  induction refs with
  | nil => rfl
  | cons n refs ih =>
    have hstep : s.decideExit n = s := by
      cases he : s.entry n with
      | none => rw [State.decideExit, he]
      | some e =>
        exact decideExit_stands he (.inl (h e (List.mem_of_find?_eq_some he)))
    rw [List.foldl_cons, hstep, ih]

/-- R86: the exit flags after the event's sample. -/
theorem exitSampled_iff (ev : StepEvent) (span start stop : Nat) (blocked : Bool) (e : TransitEntry) :
    let f := exitSampled ev span start stop blocked e
    (f.exitDone = true ↔ e.exitDone = true ∨ ev.covers span stop = true) ∧
    (f.exitBlocked = true ↔ e.exitBlocked = true ∨
      (blocked = true ∧ ev.touches span start e.ticket.length = true)) := by
  simp [exitSampled]

/-- R86, R87: the entries are sampled, and then decided in the order of the list. -/
theorem exitLine_eq (s : State) (ev : StepEvent) : s.exitLine ev =
    (s.trk.transit.map (fun e => e.ref)).foldl State.decideExit (s.setTransit (s.trk.transit.map (fun e =>
      exitSampled ev s.cfg.span ((e.ticket.lead + s.cfg.exitX) % s.cfg.span)
        ((e.ticket.lead + s.cfg.exitX + e.ticket.length - 1) % s.cfg.span) s.pins.exitBlocked e))) := by
  simp only [State.exitLine, State.exitStart, State.exitEnd, List.map_map]
  congr 1

/-- Settles O35. -/
theorem samplesJudgeExtents : Obligations.SamplesJudgeExtents := by
  unfold Obligations.SamplesJudgeExtents
  refine ⟨fun ev span h => discontinuity_covers span h, ?_, ?_, verifies_eq, ?_, exitLine_eq⟩
  · intro ev span a old ha hadv hpos
    refine ⟨covers_iff ha hadv hpos, fun start stop blocked e hlen => ?_, fun blocked w hlen => ?_⟩
    · obtain ⟨hdone, hblocked⟩ := exitSampled_iff ev span start stop blocked e
      rw [touches_iff ha hadv hpos start hlen] at hblocked
      exact ⟨rfl, rfl, rfl, rfl, hdone, hblocked⟩
    · obtain ⟨hfresh, hoverdue, hstart, hlength⟩ := sampled_rest ev span blocked w
      refine ⟨sampled_fresh span blocked, fun hold hintime => ?_, fun hold hlate => ?_, ?_⟩
      · rw [sampled_seasoned span blocked hold hadv, ← touches_iff ha hadv hpos w.start hlen]
        simp [hintime]
      · rw [sampled_seasoned span blocked hold hadv]
        simp [hlate]
      · rw [decided_iff span _ hadv, hfresh, hoverdue, hstart, hlength]
  · exact fun s ev b => ⟨verifyEjector_none, fun w => verifyEjector_one, verifyEjector_eq s ev b⟩
  · intro s ev hpass
    rw [exitLine_eq]
    refine decideExits_of_no_pass _ fun e he r => ?_
    obtain ⟨e', he', rfl⟩ := List.mem_map.mp he
    exact hpass e' he' r

end Sys2Proof.Machine

/-! A bin sensor's change, and a bin put in its place (R97, R98, R107). -/

namespace Sys2Proof.Machine

/-! ### The sensors (R97) -/

@[simp] theorem takeSensor_bins (s : State) (b : BinNo) (k : BinSensor) (l : Bool) :
    (s.takeSensor b k l).bins.recs = s.bins.recs ∧ (s.takeSensor b k l).bins.snapshot = s.bins.snapshot ∧
    (s.takeSensor b k l).bins.asked = s.bins.asked ∧ (s.takeSensor b k l).bins.between = s.bins.between := by
  cases k <;> exact ⟨rfl, rfl, rfl, rfl⟩

@[simp] theorem takeSensor_sensor (s : State) (b : BinNo) (k : BinSensor) (l : Bool) :
    (s.takeSensor b k l).bins.sensor b k = ⟨l, none⟩ := by
  cases k <;> simp [State.takeSensor, BinUnit.setSensor, BinUnit.sensor]

/-- R97: a sensor that is read has held the new level for its settle time. -/
theorem settled_of {s : State} {b : BinNo} {k : BinSensor} {level : Bool} (hrun : s.running = true)
    (hreads : s.reads b k = true) (hdue : Timer.due (s.bins.sensor b k).timer = true)
    (hold : (s.bins.sensor b k).settled = !level) (hpin : s.pins.binSensor b k = level) :
    s.settled b k level = true := by
  simp [State.settled, hrun, hreads, hdue, hold, hpin]

theorem reads_present {s : State} {b : BinNo} (h : (s.binCfg b).configured = true) : s.reads b .present = true := by
  simp [State.reads, h]

theorem reads_full {s : State} {b : BinNo} (h : (s.binCfg b).configured = true) (hfitted : (s.binCfg b).fullFitted = true) :
    s.reads b .full = true := by simp [State.reads, h, hfitted]

@[simp] theorem binSensor_setBinSensor (p : Pins) (b : BinNo) (k : BinSensor) (level : Bool) :
    (p.setBinSensor b k level).binSensor b k = level := by cases k <;> simp [Pins.setBinSensor, Pins.binSensor]

@[simp] theorem setSensor_sensor (u : BinUnit) (b : BinNo) (k : BinSensor) (x : Sensor) :
    (u.setSensor b k x).sensor b k = x ∧ (u.setSensor b k x).recs = u.recs ∧ (u.setSensor b k x).asked = u.asked := by
  cases k <;> simp [BinUnit.setSensor, BinUnit.sensor]

theorem finish_sensor (s : State) (b : BinNo) (k : BinSensor) : s.finish.bins.sensor b k = s.bins.sensor b k := by
  cases k <;> simp [BinUnit.sensor]

@[simp] theorem elapse_sensor (s : State) (dt : Nat) (b : BinNo) (k : BinSensor) :
    (s.elapse dt).bins.sensor b k = (s.bins.sensor b k).elapse dt := by cases k <;> simp [BinUnit.sensor]

/-- R97: a sensor that is read starts its settle time, or ends it. -/
theorem binSensorChange_read {u : State} {b : BinNo} {k : BinSensor} {level : Bool} (hlevel : level ≠ u.pins.binSensor b k)
    (hread : (u.running && u.reads b k) = true) : u.binSensorChange b k level =
      (u.setPins (u.pins.setBinSensor b k level)).setBins (u.bins.setSensor b k { u.bins.sensor b k with
        timer := if level = (u.bins.sensor b k).settled then none else Timer.start (settleMs k) }) := by
  rw [State.binSensorChange, if_neg hlevel]
  exact if_pos hread

theorem binSensorChange_unread {u : State} {b : BinNo} {k : BinSensor} {level : Bool}
    (hlevel : level ≠ u.pins.binSensor b k) (hread : ¬ (u.running && u.reads b k) = true) :
    u.binSensorChange b k level = u.setPins (u.pins.setBinSensor b k level) := by
  rw [State.binSensorChange, if_neg hlevel]
  exact if_neg hread

/-- Settles O37. -/
theorem sensorChangeStartsSettling : Obligations.SensorChangeStartsSettling := by
  unfold Obligations.SensorChangeStartsSettling
  intro s dt b k level hlevel hasked
  refine ⟨fun hrun hreads => ?_, fun hidle => ?_⟩
  · have heff : effect (.binSensorChange dt b k level) (s.elapse dt) = _ :=
      binSensorChange_read (u := s.elapse dt) hlevel (by simp [hrun, hreads])
    have hquiet := elapse_asked_of dt hasked
    refine ⟨_, exec_answers heff, by simp, ?_, ?_, by simp, ?_⟩
    · rw [finish_sensor]
      simp
    · rw [finish_sensor]
      simp only [setBins_bins, setSensor_sensor, elapse_sensor, sensor_elapse]
      cases k <;> rfl
    · exact SameBut.finish_quiet (by simp [sameBut_iff]) (by simpa using hasked)
  · have heff : effect (.binSensorChange dt b k level) (s.elapse dt) = _ :=
      binSensorChange_unread (u := s.elapse dt) hlevel (by simpa using fun hrun => by simpa [hrun] using hidle)
    refine ⟨_, exec_answers heff, by simp, ?_⟩
    exact SameBut.finish_quiet (by simp [sameBut_iff]) (elapse_asked_of dt hasked)

/-! ### An insertion (R98, R107) -/

/-- R98: the record of a bin put in its place, in state `x`. -/
def BinRecord.emptied (r : BinRecord) (x : BinState) : BinRecord := { r with fill := 0, unverified := false, state := x }

/-- R98, R107: outside a visit the state is by the full sensor; within one it is HELD, and the slot is fresh. -/
theorem insertBin_of_absent {v : State} {b : BinNo} (h : (v.bins.recs.get b).state = .absent) :
    (v.bins.snapshot = none →
      v.insertBin b = v.setBin b ((v.bins.recs.get b).emptied (if v.fullActive b then .full else .opened))) ∧
    (∀ q, v.bins.snapshot = some q →
      v.insertBin b = (v.setBin b ((v.bins.recs.get b).emptied .held)).setSlot b ⟨.opened, .fresh⟩) := by
  refine ⟨fun hnone => ?_, fun q hq => ?_⟩
  · rw [State.insertBin, if_pos h, hnone]
    rfl
  · rw [State.insertBin, if_pos h, hq]
    rfl

/-- R98, R109, R111: what every insertion changes. -/
structure Inserted (b : BinNo) (x : BinState) (u t : State) : Prop where
  recs : t.bins.recs = u.bins.recs.set b ((u.bins.recs.get b).emptied x)
  present : (t.bins.present.get b).settled = true
  asked : t.bins.asked = true
  saved : (u.bins.recs.get b).fill ≠ 0 ∨ (u.bins.recs.get b).unverified = true →
    (t.retention.bins.get b).fill = 0 ∧ (t.retention.bins.get b).unverified = false
  same : SameBut (.retention :: binstateParts) u t

/-- R98: the present sensor settles active, and the record is emptied. -/
theorem inserted_setBin {u : State} {b : BinNo} {x : BinState} (hconf : (u.binCfg b).configured = true)
    (h : (u.bins.recs.get b).state = .absent) (hx : x ≠ .absent) :
    Inserted b x u ((u.takeSensor b .present true).setBin b ((u.bins.recs.get b).emptied x)) := by
  have hpresent : ((u.takeSensor b .present true).bins.present.get b).settled = true := by
    simp [State.takeSensor, BinUnit.setSensor]
  refine ⟨by simp, by simpa using hpresent, ?_, fun hold => ?_, ?_⟩
  · rw [setBin_asked, Bool.or_eq_true]
    refine .inr ?_
    have hchanged : ((u.bins.recs.get b).state != ((u.bins.recs.get b).emptied x).state) = true := by
      rw [h, bne_iff_ne]
      exact hx.symm
    have hconf' : ((u.takeSensor b .present true).binCfg b).configured = true := by simpa [State.binCfg] using hconf
    obtain ⟨hrecs, -, -, -⟩ := takeSensor_bins u b .present true
    rw [hrecs, BinRecord.reportable, hconf', hchanged]
    rfl
  · rw [setBin_retention, if_neg]
    · simp [Retention.writeBin, BinRecord.emptied]
    · rintro ⟨hfill, hunverified⟩
      simp only [takeSensor_bins] at hfill hunverified
      rw [hfill, hunverified] at hold
      simp [BinRecord.emptied] at hold
  · simp [sameBut_iff, binstateParts]

/-- R107: the slot of a visit is the snapshot's own. -/
theorem Inserted.setSlot {b : BinNo} {x : BinState} {u t : State} (h : Inserted b x u t) (slot : SnapshotSlot) :
    Inserted b x u (t.setSlot b slot) :=
  ⟨h.recs, h.present, h.asked, by simpa using h.saved, h.same.trans (by simp [sameBut_iff, binstateParts])⟩

/-- R98, R107: a settled bin-present rise of a bin that is ABSENT. -/
theorem insertion_spec {u : State} {b : BinNo} (hsettled : u.settled b .present true = true)
    (hconf : (u.binCfg b).configured = true) (h : (u.bins.recs.get b).state = .absent) :
    (u.bins.snapshot = none → Inserted b (if u.fullActive b then .full else .opened) u (u.insertion b) ∧
      (u.insertion b).bins.snapshot = none) ∧
    (∀ q, u.bins.snapshot = some q → Inserted b .held u (u.insertion b) ∧
      (u.insertion b).bins.snapshot = some (q.set b ⟨.opened, .fresh⟩)) := by
  obtain ⟨hrecs, hsnapshot, -, -⟩ := takeSensor_bins u b .present true
  obtain ⟨hnone, hsome⟩ := insertBin_of_absent (v := u.takeSensor b .present true) (b := b) (by rwa [hrecs])
  have hfull : (u.takeSensor b .present true).fullActive b = u.fullActive b := rfl
  rw [State.insertion, if_pos hsettled]
  refine ⟨fun hs => ?_, fun q hs => ?_⟩
  · rw [hnone (hsnapshot.trans hs), hrecs, hfull]
    refine ⟨inserted_setBin hconf h (by split <;> simp), ?_⟩
    simp [hs]
  · rw [hsome q (hsnapshot.trans hs), hrecs]
    refine ⟨(inserted_setBin hconf h (by simp)).setSlot _, ?_⟩
    simp [State.setSlot, hs]

theorem elapse_recs (s : State) (dt : Nat) : (s.elapse dt).bins.recs = s.bins.recs := rfl

/-- Settles O38. -/
theorem insertionEmptiesRecord : Obligations.InsertionEmptiesRecord := by
  unfold Obligations.InsertionEmptiesRecord
  intro s dt b hrun hconf htimer hold hpin habsent
  have hsettled : (s.elapse dt).settled b .present true = true :=
    settled_of hrun (reads_present hconf) (by simpa [BinUnit.sensor] using htimer.due) (by simpa [BinUnit.sensor] using hold) hpin
  obtain ⟨hnone, hsome⟩ := insertion_spec hsettled hconf (by simpa using habsent)
  have heff : effect (.insertion dt b) (s.elapse dt) = (s.elapse dt).insertion b := rfl
  have hinserted : ∃ x, Inserted b x (s.elapse dt) ((s.elapse dt).insertion b) := by
    cases hsnap : s.bins.snapshot with
    | none => exact ⟨_, (hnone (by simpa using hsnap)).1⟩
    | some q => exact ⟨_, (hsome q (by simpa using hsnap)).1⟩
  obtain ⟨x, hinserted⟩ := hinserted
  obtain ⟨hrecs, hpresent, hasked, hsaved, hsame⟩ := hinserted
  have hrunning : ((s.elapse dt).insertion b).running = true := by
    rw [running_of_ctl (s := s.elapse dt) (by simp)]
    exact hrun
  refine ⟨_, exec_answers heff, ?_⟩
  have hrecord : ((s.elapse dt).insertion b).bins.recs.get b = (s.bins.recs.get b).emptied x := by
    rw [hrecs, Quad.get_set_same, elapse_recs]
  simp only [finish_bins, finish_frame, hrecord]
  refine ⟨hpresent, rfl, rfl, rfl, by simpa using hsaved, fun hs => ?_, fun q hq => ?_, finish_period hasked hrunning,
    fun c hc => ?_, hsame.finish (by decide)⟩
  · obtain ⟨hthis, hsnap⟩ := hnone hs
    refine ⟨hsnap, ?_⟩
    rw [← hrecord, hthis.recs, Quad.get_set_same]
    simp [BinRecord.emptied, State.fullActive]
  · obtain ⟨hthis, hsnap⟩ := hsome q hq
    refine ⟨?_, hsnap⟩
    rw [← hrecord, hthis.recs, Quad.get_set_same]
    rfl
  · simp only [finish_bins]
    rw [hrecs, Quad.get_set_other _ _ _ _ hc, elapse_recs]

end Sys2Proof.Machine

/-! A bin pulled and a bin that reports full, as events and between a decision and its request (R99 to R104, R107, R132). -/

namespace Sys2Proof.Machine

/-! ### Reservations given up -/

theorem Quad.set_set {α : Type} (q : Quad α) (b : BinNo) (x y : α) : (q.set b x).set b y = q.set b y := by
  cases b <;> rfl

/-- R102: a list of steps of which each gives up one reservation of bin `b`. -/
theorem recs_gives_up {α : Type} (step : State → α → State) (b : BinNo)
    (hstep : ∀ u x, (step u x).bins.recs =
      u.bins.recs.set b { u.bins.recs.get b with pending := (u.bins.recs.get b).pending - 1 }) (l : List α) (u : State) :
    (l.foldl step u).bins.recs =
      u.bins.recs.set b { u.bins.recs.get b with pending := (u.bins.recs.get b).pending - l.length } := by
  induction l generalizing u with
  | nil => exact (Quad.set_get_self _ b).symm
  | cons x l ih =>
    rw [List.foldl_cons, ih, hstep, Quad.get_set_same, Quad.set_set, List.length_cons, Nat.sub_sub, Nat.add_comm]

theorem cancelSchedule_recs_eq (s : State) (b : BinNo) (r : PassReason) : (s.cancelSchedule b r).bins.recs =
    s.bins.recs.set b { s.bins.recs.get b with
      pending := (s.bins.recs.get b).pending - (s.ej.get b).schedule.length } :=
  recs_gives_up _ b (fun u it => cancelItem_recs u b r it) _ _

@[simp] theorem cancelSchedule_sensors (s : State) (b : BinNo) (r : PassReason) :
    (s.cancelSchedule b r).bins.present = s.bins.present ∧ (s.cancelSchedule b r).bins.full = s.bins.full := by
  have hitem : ∀ (u : State) (it : SchedItem), (u.cancelItem b r it).bins.present = u.bins.present ∧
      (u.cancelItem b r it).bins.full = u.bins.full := by
    intro u it
    simp [State.cancelItem, State.requestPass]
  rw [State.cancelSchedule, foldl_keeps (fun u : State => u.bins.present) _ (fun u it => (hitem u it).1),
    foldl_keeps (fun u : State => u.bins.full) _ (fun u it => (hitem u it).2)]
  exact ⟨rfl, rfl⟩

/-! ### The watch of a bin that is pulled (R132) -/

theorem detachedEntry_ref (e : TransitEntry) : (detachedEntry e).ref = e.ref := by
  unfold detachedEntry
  split <;> rfl

theorem entry_requestDetach (s : State) (ref n : Nat) :
    (s.requestDetach ref).entry n = (s.entry n).map (fun e => if e.ref = ref then detachedEntry e else e) :=
  entry_updateEntry s ref n detachedEntry detachedEntry_ref

/-- R132: an attached item's entry is detached, and its reservation given up. -/
def State.detachItem (b : BinNo) (s : State) (w : WatchItem) : State := (s.requestDetach w.ref).unreserve b

theorem detachWatch_eq (s : State) (b : BinNo) : s.detachWatch b =
    ((s.ej.get b).watch.filter (fun w => !w.detached)).foldl (State.detachItem b)
      (s.setEjector b { s.ej.get b with watch := (s.ej.get b).watch.map (fun w => { w with detached := true }) }) := rfl

theorem entry_detachItem (s : State) (b : BinNo) (w : WatchItem) (n : Nat) :
    (s.detachItem b w).entry n = (s.entry n).map (fun e => if e.ref = w.ref then detachedEntry e else e) := by
  rw [State.detachItem, entry_unreserve, entry_requestDetach]

/-- R80: detaches leave an entry that is not FIRED, or is detached. -/
theorem entry_detachItems_stands {s : State} {n : Nat} (b : BinNo) (l : List WatchItem)
    (h : ∀ e, s.entry n = some e → detachedEntry e = e) : (l.foldl (State.detachItem b) s).entry n = s.entry n := by
  induction l generalizing s with
  | nil => rfl
  | cons w l ih =>
    have hstep : (s.detachItem b w).entry n = s.entry n := by
      rw [entry_detachItem]
      cases hentry : s.entry n with
      | none => rfl
      | some e => simp [h e hentry]
    rw [List.foldl_cons, ih (by rw [hstep]; exact h), hstep]

/-- R80, R132: detaches reach each FIRED entry that they name. -/
theorem entry_detachItems {s : State} {n : Nat} {e : TransitEntry} {c : BinNo} {fp : Nat} {d : Bool} (b : BinNo)
    (l : List WatchItem) (he : s.entry n = some e) (hs : e.state = .fired c fp d) (hn : n ∈ l.map (fun w => w.ref)) :
    (l.foldl (State.detachItem b) s).entry n = some { e with state := .fired c fp true } := by
  induction l generalizing s with
  | nil => simp at hn
  | cons w l ih =>
    have hstep := entry_detachItem s b w n
    rw [he] at hstep
    by_cases hw : n = w.ref
    · have hdetached : (s.detachItem b w).entry n = some { e with state := .fired c fp true } := by
        rw [hstep]
        simp [entry_ref s n e he, hw, detachedEntry, hs]
      rw [List.foldl_cons, entry_detachItems_stands b l, hdetached]
      intro e' he'
      rw [hdetached] at he'
      cases he'
      rfl
    · have hrest : n ∈ l.map (fun w => w.ref) := by simpa [hw] using hn
      refine ih ?_ hrest
      rw [hstep]
      simp [entry_ref s n e he, hw]

@[simp] theorem detachItem_keeps (s : State) (b : BinNo) (w : WatchItem) : (s.detachItem b w).ej = s.ej ∧
    (s.detachItem b w).bins.present = s.bins.present ∧ (s.detachItem b w).bins.snapshot = s.bins.snapshot ∧
    (s.detachItem b w).bins.between = s.bins.between := by
  simp [State.detachItem, State.requestDetach]

theorem detachItem_recs (s : State) (b : BinNo) (w : WatchItem) : (s.detachItem b w).bins.recs =
    s.bins.recs.set b { s.bins.recs.get b with pending := (s.bins.recs.get b).pending - 1 } := by
  simp [State.detachItem, State.requestDetach]

/-- R102, R132: what the detaches of a watch leave of the ejectors, the records and the sensors. -/
theorem detachWatch_spec (s : State) (b : BinNo) :
    (s.detachWatch b).ej = s.ej.set b { s.ej.get b with
      watch := (s.ej.get b).watch.map (fun w => { w with detached := true }) } ∧
    (s.detachWatch b).bins.recs = s.bins.recs.set b { s.bins.recs.get b with
      pending := (s.bins.recs.get b).pending - ((s.ej.get b).watch.filter (fun w => !w.detached)).length } ∧
    (s.detachWatch b).bins.present = s.bins.present ∧ (s.detachWatch b).bins.snapshot = s.bins.snapshot ∧
    (s.detachWatch b).bins.between = s.bins.between := by
  rw [detachWatch_eq]
  refine ⟨?_, recs_gives_up _ b (fun u w => detachItem_recs u b w) _ _, ?_, ?_, ?_⟩
  · rw [foldl_keeps State.ej _ (by simp)]
    rfl
  · exact foldl_keeps (fun u : State => u.bins.present) _ (by simp) _ _
  · exact foldl_keeps (fun u : State => u.bins.snapshot) _ (by simp) _ _
  · exact foldl_keeps (fun u : State => u.bins.between) _ (by simp) _ _

/-! ### A removal (R103, R107, R132) -/

/-- R103, R107, R132: what the removal of bin `b` changes. -/
structure Removed (b : BinNo) (u t : State) : Prop where
  present : (t.bins.present.get b).settled = false
  recs : t.bins.recs = u.bins.recs.set b { u.bins.recs.get b with
    state := .absent, fill := 0, pending := (u.bins.recs.get b).pending -
      ((u.ej.get b).schedule.length + ((u.ej.get b).watch.filter (fun w => !w.detached)).length) }
  ej : t.ej = u.ej.set b { u.ej.get b with
    schedule := [], watch := (u.ej.get b).watch.map (fun w => { w with detached := true }) }
  cancelled : Cancelled u t b .binRemoved
  detached : ∀ w ∈ (u.ej.get b).watch, w.detached = false → ∀ e, u.entry w.ref = some e →
    ∀ c fp d, e.state = .fired c fp d → t.entry w.ref = some { e with state := .fired c fp true }
  slot : ∀ q, u.bins.snapshot = some q → t.bins.snapshot = some (q.set b ⟨.absent, .replaced⟩)
  asked : t.bins.asked = true
  between : t.bins.between = u.bins.between
  same : SameBut [.retention, .trk, .bins, .ej, .port, .ltu, .counters] u t

/-- R103: the cancellations and the detaches of a bin that is pulled. -/
def State.pullItems (b : BinNo) (s : State) : State := (s.cancelSchedule b .binRemoved).detachWatch b

theorem removeBin_of_held {s : State} {b : BinNo} (h : (s.bins.recs.get b).state ≠ .absent) : s.removeBin b =
    ((s.pullItems b).setBin b { (s.pullItems b).bins.recs.get b with fill := 0, state := .absent }).setSlot b
      ⟨.absent, .replaced⟩ := if_neg h

theorem pullItems_recs (s : State) (b : BinNo) : (s.pullItems b).bins.recs = s.bins.recs.set b { s.bins.recs.get b with
    pending := (s.bins.recs.get b).pending -
      ((s.ej.get b).schedule.length + ((s.ej.get b).watch.filter (fun w => !w.detached)).length) } := by
  obtain ⟨-, hrecs, -, -, -⟩ := detachWatch_spec (s.cancelSchedule b .binRemoved) b
  rw [State.pullItems, hrecs, cancelSchedule_recs_eq, cancelSchedule_ej]
  simp only [Quad.get_set_same, Quad.set_set, Nat.sub_sub]

theorem pullItems_ej (s : State) (b : BinNo) : (s.pullItems b).ej = s.ej.set b { s.ej.get b with
    schedule := [], watch := (s.ej.get b).watch.map (fun w => { w with detached := true }) } := by
  obtain ⟨hej, -, -, -, -⟩ := detachWatch_spec (s.cancelSchedule b .binRemoved) b
  rw [State.pullItems, hej, cancelSchedule_ej]
  simp only [Quad.get_set_same, Quad.set_set]

/-- R103, R132: a scheduled entry passes, and a fired one that is attached is detached. -/
theorem pullItems_entries (s : State) (b : BinNo) : Cancelled s (s.pullItems b) b .binRemoved ∧
    ∀ w ∈ (s.ej.get b).watch, w.detached = false → ∀ e, s.entry w.ref = some e →
      ∀ c fp d, e.state = .fired c fp d → (s.pullItems b).entry w.ref = some { e with state := .fired c fp true } := by
  refine ⟨fun it hit e he c fp hs => ?_, fun w hw hattached e he c fp d hs => ?_⟩
  · have hcancelled := cancelSchedule_cancels s b .binRemoved it hit e he c fp hs
    rw [State.pullItems, detachWatch_eq, entry_detachItems_stands, entry_setEjector, hcancelled]
    intro e' he'
    rw [entry_setEjector, hcancelled] at he'
    split at he'
    · simp at he'
    · cases he'
      rfl
  · have hstands : (s.cancelSchedule b .binRemoved).entry w.ref = some e := by
      rw [entry_cancelSchedule_settled b, he]
      intro e' he'
      rw [he] at he'
      cases he'
      simp [hs, EntryState.isPass]
    rw [State.pullItems, detachWatch_eq]
    refine entry_detachItems b _ (by rwa [entry_setEjector]) hs ?_
    refine List.mem_map_of_mem (List.mem_filter.mpr ⟨?_, by simp [hattached]⟩)
    simpa using hw

theorem pullItems_keeps (s : State) (b : BinNo) : (s.pullItems b).bins.present = s.bins.present ∧
    (s.pullItems b).bins.snapshot = s.bins.snapshot ∧ (s.pullItems b).bins.between = s.bins.between ∧
    (s.pullItems b).cfg = s.cfg ∧ SameBut [.retention, .trk, .bins, .ej, .port, .ltu, .counters] s (s.pullItems b) := by
  obtain ⟨-, -, hpresent, hsnap, hbetween⟩ := detachWatch_spec (s.cancelSchedule b .binRemoved) b
  rw [State.pullItems, hpresent, hsnap, hbetween]
  simp [sameBut_iff]

/-- R103, R107: the removal of a bin that is not ABSENT, its sensor apart. -/
theorem removeBin_spec {v : State} {b : BinNo} (hconf : (v.binCfg b).configured = true)
    (h : (v.bins.recs.get b).state ≠ .absent) (hpresent : (v.bins.present.get b).settled = false) :
    Removed b v (v.removeBin b) := by
  obtain ⟨hpresent', hsnap, hbetween, hcfg, hsame⟩ := pullItems_keeps v b
  obtain ⟨hcancelled, hdetached⟩ := pullItems_entries v b
  have hrecs := pullItems_recs v b
  have hej := pullItems_ej v b
  have ht := removeBin_of_held h
  generalize hr : { (v.pullItems b).bins.recs.get b with fill := 0, state := BinState.absent } = r at ht
  have hentry : ∀ n, (v.removeBin b).entry n = (v.pullItems b).entry n := by
    intro n
    rw [ht]
    exact entry_setBin _ _ _ _
  refine ⟨?_, ?_, ?_, ?_, ?_, fun q hq => ?_, ?_, ?_, ?_⟩
  · rw [ht]
    simpa [State.setSlot, hpresent'] using hpresent
  · rw [ht]
    simp only [State.setSlot, setBins_bins, setBin_recs, ← hr, hrecs, Quad.get_set_same, Quad.set_set]
  · rw [ht, ← hej]
    simp
  · intro it hit e he c fp hs
    rw [hentry, hcancelled it hit e he c fp hs]
  · intro w hw hattached e he c fp d hs
    rw [hentry, hdetached w hw hattached e he c fp d hs]
  · rw [ht]
    simp [State.setSlot, hsnap, hq]
  · have hconf' : ((v.pullItems b).binCfg b).configured = true := by rwa [State.binCfg, hcfg]
    have hchanged : (((v.pullItems b).bins.recs.get b).state != r.state) = true := by
      rw [hrecs, Quad.get_set_same, ← hr, bne_iff_ne]
      exact h
    rw [ht]
    simp only [State.setSlot, setBins_bins, setBin_asked, BinRecord.reportable, hconf', hchanged]
    simp
  · rw [ht]
    simp [State.setSlot, hbetween]
  · rw [ht]
    exact hsame.trans (by simp [sameBut_iff])

/-- R103: a settled bin-present fall of a bin that is not ABSENT. -/
theorem removal_spec {u : State} {b : BinNo} (hsettled : u.settled b .present false = true)
    (hconf : (u.binCfg b).configured = true) (h : (u.bins.recs.get b).state ≠ .absent) : Removed b u (u.removal b) := by
  obtain ⟨hrecs, hsnap, -, hbetween⟩ := takeSensor_bins u b .present false
  have hpresent : ((u.takeSensor b .present false).bins.sensor b .present).settled = false := by
    rw [takeSensor_sensor]
  have ht : u.removal b = (u.takeSensor b .present false).removeBin b := if_pos hsettled
  have hspec := removeBin_spec (v := u.takeSensor b .present false) hconf (by rwa [hrecs]) hpresent
  rw [← ht] at hspec
  refine ⟨hspec.present, ?_, hspec.ej, hspec.cancelled, hspec.detached, fun q hq => hspec.slot q (by rwa [hsnap]),
    hspec.asked, by rw [hspec.between, hbetween], SameBut.trans (by simp [sameBut_iff]) hspec.same⟩
  have hmine := hspec.recs
  rwa [hrecs] at hmine

theorem Removed.own {b : BinNo} {u t : State} (h : Removed b u t) :
    t.bins.recs.get b = { u.bins.recs.get b with
      state := .absent, fill := 0, pending := (u.bins.recs.get b).pending -
        ((u.ej.get b).schedule.length + ((u.ej.get b).watch.filter (fun w => !w.detached)).length) } ∧
    t.ej.get b = { u.ej.get b with
      schedule := [], watch := (u.ej.get b).watch.map (fun w => { w with detached := true }) } := by
  rw [h.recs, h.ej, Quad.get_set_same, Quad.get_set_same]
  exact ⟨rfl, rfl⟩

theorem Removed.others {b : BinNo} {u t : State} (h : Removed b u t) :
    OtherBins b u t ∧ ∀ c, c ≠ b → t.ej.get c = u.ej.get c := by
  refine ⟨fun c hc => ?_, fun c hc => ?_⟩
  · rw [h.recs, Quad.get_set_other _ _ _ _ hc]
  · rw [h.ej, Quad.get_set_other _ _ _ _ hc]

theorem finish_entry (s : State) (n : Nat) : s.finish.entry n = s.entry n := by simp [State.entry]

/-- A bin that does not take grants no request. -/
theorem not_grants {s : State} {b : BinNo} (h : (s.bins.recs.get b).state.takes = false) : s.grants b = false := by
  simp [State.grants, h]

theorem due_of_runsOut_zero {t : Timer} (h : RunsOut t 0) : Timer.due t = true := by
  obtain ⟨r, rfl, hr⟩ := h
  rw [Nat.le_zero.mp hr]
  rfl

theorem finish_recs (s : State) : s.finish.bins.recs = s.bins.recs := by simp

/-- Settles O39. -/
theorem removalCancelsAndDetaches : Obligations.RemovalCancelsAndDetaches := by
  unfold Obligations.RemovalCancelsAndDetaches
  refine ⟨?_, fun s dt b => exec_answers rfl, ?_⟩
  · intro s dt b hrun hconf htimer hold hpin hstate
    have hsettled : (s.elapse dt).settled b .present false = true :=
      settled_of hrun (reads_present hconf) (by simpa [BinUnit.sensor] using htimer.due)
        (by simpa [BinUnit.sensor] using hold) hpin
    have hremoved := removal_spec hsettled hconf hstate
    have heff : effect (.removal dt b) (s.elapse dt) = (s.elapse dt).removal b := rfl
    generalize hv : (s.elapse dt).removal b = v at hremoved heff
    have hrunning : v.running = true := by
      rw [← hv, running_of_ctl (s := s.elapse dt) (by simp)]
      exact hrun
    obtain ⟨hrecord, hejector⟩ := hremoved.own
    obtain ⟨hotherBins, hotherEj⟩ := hremoved.others
    refine ⟨_, exec_answers heff, ?_⟩
    simp only [finish_bins, finish_frame, finish_entry, hrecord, hejector, elapse_ejector, elapse_recs]
    refine ⟨hremoved.present, trivial, trivial, trivial, trivial, trivial, trivial,
      fun it hit e he c fp hs => ?_, ?_, trivial, hremoved.slot,
      finish_period hremoved.asked hrunning, fun c hc => ?_, hotherEj, hremoved.same.finish (by decide)⟩
    · rw [finish_entry]
      exact hremoved.cancelled it (by simpa using hit) e he c fp hs
    · simpa using hremoved.detached
    · rw [finish_recs, hotherBins c hc, elapse_recs]
  · intro s b rest ref k hbetween hrun hconf htimer hold hpin hstate
    have htake : s.takeBetween = (s.setBetween rest).removal b := takeBetween_cons s _ rest hbetween
    have hsettled : (s.setBetween rest).settled b .present false = true :=
      settled_of hrun (reads_present hconf) (due_of_runsOut_zero htimer) hold hpin
    have hremoved := removal_spec hsettled hconf hstate
    rw [← htake] at hremoved
    obtain ⟨hrecord, hejector⟩ := hremoved.own
    obtain ⟨hotherBins, hotherEj⟩ := hremoved.others
    refine ⟨s.takeBetween, take_refused s ref k b (not_grants (by rw [hrecord]; rfl)), ?_⟩
    rw [hrecord, hejector]
    exact ⟨rfl, rfl, rfl, rfl, hremoved.cancelled, hremoved.between, hremoved.asked, hotherBins, hotherEj⟩

end Sys2Proof.Machine

/-! A full sensor's rise and fall (R99, R100, R104). -/

namespace Sys2Proof.Machine

/-- R100: what the rise of the full sensor of an OPEN or NEAR bin changes. -/
structure FilledUp (b : BinNo) (u t : State) : Prop where
  full : (t.bins.full.get b).settled = true
  recs : t.bins.recs = u.bins.recs.set b { u.bins.recs.get b with
    state := .full, pending := (u.bins.recs.get b).pending - (u.ej.get b).schedule.length }
  ej : t.ej = u.ej.set b { u.ej.get b with schedule := [] }
  cancelled : Cancelled u t b .full
  asked : t.bins.asked = true
  between : t.bins.between = u.bins.between
  same : SameBut [.retention, .trk, .bins, .ej, .port, .ltu, .counters] u t

theorem FilledUp.own {b : BinNo} {u t : State} (h : FilledUp b u t) :
    t.bins.recs.get b = { u.bins.recs.get b with
      state := .full, pending := (u.bins.recs.get b).pending - (u.ej.get b).schedule.length } ∧
    t.ej.get b = { u.ej.get b with schedule := [] } := by
  rw [h.recs, h.ej, Quad.get_set_same, Quad.get_set_same]
  exact ⟨rfl, rfl⟩

theorem FilledUp.others {b : BinNo} {u t : State} (h : FilledUp b u t) :
    OtherBins b u t ∧ ∀ c, c ≠ b → t.ej.get c = u.ej.get c := by
  refine ⟨fun c hc => ?_, fun c hc => ?_⟩
  · rw [h.recs, Quad.get_set_other _ _ _ _ hc]
  · rw [h.ej, Quad.get_set_other _ _ _ _ hc]

theorem takes_iff (x : BinState) : x.takes = true ↔ x = .opened ∨ x = .near := by simp [BinState.takes]

/-- R100: a bin that takes items becomes FULL, its sensor apart. -/
theorem fillUp_spec {v : State} {b : BinNo} (hconf : (v.binCfg b).configured = true)
    (h : (v.bins.recs.get b).state.takes = true) (hfull : (v.bins.full.get b).settled = true) :
    FilledUp b v (v.fillUp b) := by
  obtain ⟨w, hw⟩ : ∃ w, w = v.setBin b { v.bins.recs.get b with state := .full } := ⟨_, rfl⟩
  have ht : v.fillUp b = w.cancelSchedule b .full := by
    rw [hw]
    exact if_pos h
  have hkeeps : w.ej = v.ej ∧ w.bins.full = v.bins.full ∧ w.bins.between = v.bins.between ∧
      w.bins.recs = v.bins.recs.set b { v.bins.recs.get b with state := .full } ∧ (∀ n, w.entry n = v.entry n) ∧
      SameBut [.retention, .bins] v w := by
    subst hw
    simp [sameBut_iff]
  obtain ⟨hej, hsensor, hbetween, hrecs, hentry, hsame⟩ := hkeeps
  have hasked : w.bins.asked = true := by
    have hchanged : ((v.bins.recs.get b).state != BinState.full) = true := by
      rw [bne_iff_ne]
      intro hstate
      rw [hstate] at h
      exact absurd h (by decide)
    rw [hw, setBin_asked, BinRecord.reportable, hconf, hchanged]
    simp
  rw [ht]
  refine ⟨?_, ?_, ?_, fun it hit e he c fp hs => ?_, ?_, ?_, ?_⟩
  · rwa [(cancelSchedule_sensors w b .full).2, hsensor]
  · rw [cancelSchedule_recs_eq, hrecs, hej]
    simp only [Quad.get_set_same, Quad.set_set]
  · rw [cancelSchedule_ej, hej]
  · exact cancelSchedule_cancels w b .full it (by rwa [hej]) e (by rwa [hentry]) c fp hs
  · exact itemWork_askKept.cancelSchedule w b .full hasked
  · rw [(cancelSchedule_rest w b .full).2.2, hbetween]
  · exact (hsame.mono (by decide)).trans (by simp [sameBut_iff])

/-- R97, R100: a settled rise at a bin that takes items. -/
theorem fullSensorRise_spec {u : State} {b : BinNo} (hsettled : u.settled b .full true = true)
    (hconf : (u.binCfg b).configured = true) (h : (u.bins.recs.get b).state.takes = true) :
    FilledUp b u (u.fullSensorRise b) := by
  obtain ⟨hrecs, -, -, hbetween⟩ := takeSensor_bins u b .full true
  have hfull : ((u.takeSensor b .full true).bins.sensor b .full).settled = true := by rw [takeSensor_sensor]
  have ht : u.fullSensorRise b = (u.takeSensor b .full true).fillUp b := if_pos hsettled
  have hspec := fillUp_spec (v := u.takeSensor b .full true) hconf (by rwa [hrecs]) hfull
  rw [← ht] at hspec
  have hmine := hspec.recs
  rw [hrecs] at hmine
  exact ⟨hspec.full, hmine, hspec.ej, hspec.cancelled, hspec.asked, by rw [hspec.between, hbetween],
    SameBut.trans (by simp [sameBut_iff]) hspec.same⟩

/-- R97: a settled rise at a bin that takes no item moves its sensor alone. -/
theorem fullSensorRise_quiet {u : State} {b : BinNo} (hsettled : u.settled b .full true = true)
    (h : (u.bins.recs.get b).state.takes = false) : u.fullSensorRise b = u.takeSensor b .full true := by
  obtain ⟨hrecs, -, -, -⟩ := takeSensor_bins u b .full true
  rw [State.fullSensorRise, if_pos hsettled, State.fillUp, hrecs, h]
  rfl

/-! ### A full sensor's fall (R100) -/

theorem fullSensorFall_quiet {u : State} {b : BinNo} (hsettled : u.settled b .full false = true)
    (h : (u.bins.recs.get b).state ≠ .full ∨ (u.binCfg b).capacity ≤ (u.bins.recs.get b).fill) :
    u.fullSensorFall b = u.takeSensor b .full false := by
  obtain ⟨hrecs, -, -, -⟩ := takeSensor_bins u b .full false
  rw [State.fullSensorFall, if_pos hsettled, State.fillDown, hrecs, if_neg]
  rintro ⟨hfull, hroom⟩
  have hroom' : (u.bins.recs.get b).fill < (u.binCfg b).capacity := hroom
  rcases h with h | h
  · exact h hfull
  · omega

theorem fullSensorFall_opens {u : State} {b : BinNo} (hsettled : u.settled b .full false = true)
    (hfull : (u.bins.recs.get b).state = .full) (hroom : (u.bins.recs.get b).fill < (u.binCfg b).capacity) :
    u.fullSensorFall b = (u.takeSensor b .full false).setBin b { u.bins.recs.get b with
      state := stateByFill (u.binCfg b) (u.bins.recs.get b).fill } := by
  obtain ⟨hrecs, -, -, -⟩ := takeSensor_bins u b .full false
  rw [State.fullSensorFall, if_pos hsettled, State.fillDown, hrecs, if_pos ⟨hfull, hroom⟩]
  rfl

theorem stateByFill_ne_full (c : BinSettings) (n : Nat) : stateByFill c n ≠ .full := by
  unfold stateByFill
  split <;> simp

/-- R99, R100: what a settled fall at a FULL bin below its capacity changes. -/
theorem fullSensorFall_spec {u : State} {b : BinNo} (hsettled : u.settled b .full false = true)
    (hconf : (u.binCfg b).configured = true) :
    let t := u.fullSensorFall b
    (t.bins.full.get b).settled = false ∧ (t.bins.recs.get b).fill = (u.bins.recs.get b).fill ∧ OtherBins b u t ∧
    SameBut (.retention :: binstateParts) u t ∧
    ((u.bins.recs.get b).state = .full → (u.bins.recs.get b).fill < (u.binCfg b).capacity →
      (t.bins.recs.get b).state = stateByFill (u.binCfg b) (u.bins.recs.get b).fill ∧ t.bins.asked = true) ∧
    ((u.bins.recs.get b).state ≠ .full ∨ (u.binCfg b).capacity ≤ (u.bins.recs.get b).fill →
      t.bins.recs = u.bins.recs) := by
  intro t
  obtain ⟨hrecs, -, -, -⟩ := takeSensor_bins u b .full false
  have hsensor : ((u.takeSensor b .full false).bins.full.get b).settled = false := by
    simp [State.takeSensor, BinUnit.setSensor]
  by_cases hopens : (u.bins.recs.get b).state = .full ∧ (u.bins.recs.get b).fill < (u.binCfg b).capacity
  · obtain ⟨hfull, hroom⟩ := hopens
    have ht := fullSensorFall_opens hsettled hfull hroom
    have hasked : t.bins.asked = true := by
      have hchanged : ((u.bins.recs.get b).state != stateByFill (u.binCfg b) (u.bins.recs.get b).fill) = true := by
        rw [hfull, bne_iff_ne]
        exact (stateByFill_ne_full _ _).symm
      have hconf' : ((u.takeSensor b .full false).binCfg b).configured = true := hconf
      simp only [t, ht, setBin_asked, hrecs, BinRecord.reportable, hconf', hchanged]
      simp
    refine ⟨?_, ?_, fun c hc => ?_, ?_, fun _ _ => ⟨?_, hasked⟩, fun h => ?_⟩
    · simpa [t, ht] using hsensor
    · simp [t, ht]
    · simp only [t, ht, setBin_recs, Quad.get_set_other _ _ _ _ hc, hrecs]
    · simp [t, ht, sameBut_iff, binstateParts]
    · simp [t, ht]
    · rcases h with h | h
      · exact absurd hfull h
      · omega
  · have hstays : (u.bins.recs.get b).state ≠ .full ∨ (u.binCfg b).capacity ≤ (u.bins.recs.get b).fill := by
      by_cases hfull : (u.bins.recs.get b).state = .full
      · exact .inr (Nat.not_lt.mp fun hroom => hopens ⟨hfull, hroom⟩)
      · exact .inl hfull
    have ht := fullSensorFall_quiet hsettled hstays
    refine ⟨?_, ?_, fun c _ => ?_, ?_, fun hfull hroom => absurd ⟨hfull, hroom⟩ hopens, fun _ => ?_⟩
    · simpa [t, ht] using hsensor
    · simp only [t, ht, hrecs]
    · simp only [t, ht, hrecs]
    · simp [t, ht, sameBut_iff, binstateParts]
    · simp only [t, ht, hrecs]

/-- Settles O40. -/
theorem fullSensorMovesState : Obligations.FullSensorMovesState := by
  unfold Obligations.FullSensorMovesState
  refine ⟨?_, ?_, fun s dt b => exec_answers rfl, ?_⟩
  · intro s dt b hrun hconf hfitted htimer hold hpin
    have hsettled : (s.elapse dt).settled b .full true = true :=
      settled_of hrun (reads_full hconf hfitted) (by simpa [BinUnit.sensor] using htimer.due)
        (by simpa [BinUnit.sensor] using hold) hpin
    have heff : effect (.fullSensorRise dt b) (s.elapse dt) = (s.elapse dt).fullSensorRise b := rfl
    refine ⟨_, exec_answers heff, ?_⟩
    simp only [finish_bins, finish_frame]
    by_cases htakes : (s.bins.recs.get b).state.takes = true
    · have hfilled := fullSensorRise_spec hsettled hconf htakes
      have hrunning : ((s.elapse dt).fullSensorRise b).running = true := by
        rw [running_of_ctl (s := s.elapse dt) (by simp)]
        exact hrun
      generalize (s.elapse dt).fullSensorRise b = v at hfilled hrunning
      have hperiod := finish_period hfilled.asked hrunning
      obtain ⟨hrecord, hejector⟩ := hfilled.own
      obtain ⟨hotherBins, -⟩ := hfilled.others
      simp only [hrecord, hejector, elapse_recs, elapse_ejector]
      refine ⟨hfilled.full, trivial, fun _ => ⟨trivial, trivial, fun it hit e he c fp hs => ?_, trivial, trivial, hperiod⟩,
        fun hopened hnear => ?_, fun c hc => ?_, hfilled.same.finish (by decide)⟩
      · rw [finish_entry]
        exact hfilled.cancelled it (by simpa using hit) e he c fp hs
      · simp [takes_iff, hopened, hnear] at htakes
      · rw [finish_recs, hotherBins c hc, elapse_recs]
    · have hquiet := fullSensorRise_quiet hsettled (by simpa using htakes)
      obtain ⟨hrecs, -, -, -⟩ := takeSensor_bins (s.elapse dt) b .full true
      rw [hquiet, hrecs]
      refine ⟨?_, rfl, fun h => ?_, fun _ _ => ⟨rfl, by simp⟩, fun c _ => ?_, SameBut.finish ?_ (by decide)⟩
      · simp [State.takeSensor, BinUnit.setSensor]
      · exact absurd ((takes_iff _).mpr h) htakes
      · rw [finish_recs, hrecs, elapse_recs]
      · simp [sameBut_iff]
  · intro s dt b hrun hconf hfitted htimer hold hpin
    have hsettled : (s.elapse dt).settled b .full false = true :=
      settled_of hrun (reads_full hconf hfitted) (by simpa [BinUnit.sensor] using htimer.due)
        (by simpa [BinUnit.sensor] using hold) hpin
    have heff : effect (.fullSensorFall dt b) (s.elapse dt) = (s.elapse dt).fullSensorFall b := rfl
    have hrunning : ((s.elapse dt).fullSensorFall b).running = true := by
      rw [running_of_ctl (s := s.elapse dt) (by simp)]
      exact hrun
    obtain ⟨hsensor, hfill, hothers, hsame, hopens, hstays⟩ := fullSensorFall_spec hsettled hconf
    refine ⟨_, exec_answers heff, ?_⟩
    simp only [finish_bins]
    refine ⟨hsensor, hfill, fun hfull hroom => ?_, fun hfull hroom => ?_, hstays, fun c hc => ?_,
      hsame.finish (by decide)⟩
    · exact (hopens hfull hroom).1
    · exact finish_period (hopens hfull hroom).2 hrunning
    · rw [finish_recs, hothers c hc, elapse_recs]
  · intro s b rest ref k hbetween hrun hconf hfitted htimer hold hpin hstate
    have htake : s.takeBetween = (s.setBetween rest).fullSensorRise b := takeBetween_cons s _ rest hbetween
    have hsettled : (s.setBetween rest).settled b .full true = true :=
      settled_of hrun (reads_full hconf hfitted) (due_of_runsOut_zero htimer) hold hpin
    have hfilled := fullSensorRise_spec hsettled hconf ((takes_iff _).mpr hstate)
    rw [← htake] at hfilled
    obtain ⟨hrecord, hejector⟩ := hfilled.own
    obtain ⟨hotherBins, hotherEj⟩ := hfilled.others
    refine ⟨s.takeBetween, take_refused s ref k b (not_grants (by rw [hrecord]; rfl)), ?_⟩
    rw [hrecord, hejector]
    exact ⟨rfl, rfl, rfl, rfl, hfilled.cancelled, hfilled.between, hfilled.asked, hotherBins, hotherEj⟩

end Sys2Proof.Machine

/-! The own queue, the arbiter, and the BINSTATE period (R111, R112, R145, R162). -/

namespace Sys2Proof.Machine

theorem holds_iff (u : LoopTraffic) (kind : Nat) : u.holds kind = true ↔ ∃ g ∈ u.ownQueue, g.kind = kind := by
  simp [LoopTraffic.holds]

/-! ### What a request reads and writes (R162) -/

theorem enqueueOwn_bypassed {s : State} (f : Frame) (h : s.port.link = .bypassed) : s.enqueueOwn f = s := by
  rw [State.enqueueOwn, if_pos h]

/-- R162: a BINSTATE takes the place of the one that waits. -/
theorem enqueueOwn_replaces {s : State} {f : Frame} (hlink : s.port.link ≠ .bypassed) (hkind : f.kind = 0x33)
    (hholds : ∃ g ∈ s.ltu.ownQueue, g.kind = 0x33) : s.enqueueOwn f = (s.setLtu { s.ltu with
      ownQueue := s.ltu.ownQueue.map (fun g => if g.kind = 0x33 then f else g) }).askArbiter := by
  rw [State.enqueueOwn, if_neg hlink]
  exact if_pos ⟨hkind, (holds_iff _ _).mpr hholds⟩

/-- R162: any other frame joins the tail, or is dropped where the queue is full. -/
theorem enqueueOwn_joins {s : State} {f : Frame} (hlink : s.port.link ≠ .bypassed)
    (hnew : f.kind ≠ 0x33 ∨ ∀ g ∈ s.ltu.ownQueue, g.kind ≠ 0x33) :
    (8 ≤ s.ltu.ownQueue.length → s.enqueueOwn f = s.count .queueDrops) ∧
    (s.ltu.ownQueue.length < 8 →
      s.enqueueOwn f = (s.setLtu { s.ltu with ownQueue := s.ltu.ownQueue ++ [f] }).askArbiter) := by
  have hreplaces : ¬ (f.kind = Config.kindBinstate ∧ s.ltu.holds Config.kindBinstate = true) := by
    rintro ⟨hkind, hholds⟩
    obtain ⟨g, hg, hgkind⟩ := (holds_iff _ _).mp hholds
    rcases hnew with hnew | hnew
    · exact hnew hkind
    · exact hnew g hg hgkind
  rw [State.enqueueOwn, if_neg hlink, if_neg hreplaces]
  exact ⟨fun hfull => if_pos hfull, fun hroom => if_neg (Nat.not_le.mpr hroom)⟩

theorem askArbiter_stands {s : State} (h : s.port.tx ≠ .free ∨ s.ltu.arbitrate = none) : s.askArbiter = s := by
  unfold State.askArbiter
  rcases h with h | h
  · exact if_neg h
  · rw [h]
    exact ite_self s

theorem askArbiter_sends {s : State} {f : Frame} {u : LoopTraffic} (hfree : s.port.tx = .free)
    (h : s.ltu.arbitrate = some (f, u)) : s.askArbiter = (s.setLtu u).setPort
      { s.port with tx := .sending f.lineBytes, txTimer := some ((f.lineBytes.length * 8 + 4) * 500) } := by
  rw [State.askArbiter, if_pos hfree, h]
  rfl

theorem askArbiter_setBins (s : State) (u : BinUnit) : (s.setBins u).askArbiter = s.askArbiter.setBins u := by
  by_cases hfree : s.port.tx = .free
  · cases harb : s.ltu.arbitrate with
    | none => rw [askArbiter_stands (.inr harb), askArbiter_stands (s := s.setBins u) (.inr harb)]
    | some g =>
      rw [askArbiter_sends hfree harb, askArbiter_sends (s := s.setBins u) hfree harb]
      rfl
  · rw [askArbiter_stands (.inl hfree), askArbiter_stands (s := s.setBins u) (.inl hfree)]

/-- R162: the own queue does not look at the Bin Unit. -/
theorem enqueueOwn_setBins (s : State) (u : BinUnit) (f : Frame) :
    (s.setBins u).enqueueOwn f = (s.enqueueOwn f).setBins u := by
  by_cases hlink : s.port.link = .bypassed
  · rw [enqueueOwn_bypassed f hlink, enqueueOwn_bypassed (s := s.setBins u) f hlink]
  · by_cases hreplaces : f.kind = 0x33 ∧ ∃ g ∈ s.ltu.ownQueue, g.kind = 0x33
    · obtain ⟨hkind, hholds⟩ := hreplaces
      rw [enqueueOwn_replaces hlink hkind hholds, enqueueOwn_replaces (s := s.setBins u) hlink hkind hholds,
        ← askArbiter_setBins]
      rfl
    · have hnew : f.kind ≠ 0x33 ∨ ∀ g ∈ s.ltu.ownQueue, g.kind ≠ 0x33 := by
        rcases not_and_or.mp hreplaces with hkind | hnone
        · exact .inl hkind
        · exact .inr fun g hg hkind => hnone ⟨g, hg, hkind⟩
      obtain ⟨hdrops, hjoins⟩ := enqueueOwn_joins hlink hnew
      obtain ⟨hdrops', hjoins'⟩ := enqueueOwn_joins (s := s.setBins u) hlink hnew
      rcases Nat.lt_or_ge s.ltu.ownQueue.length 8 with hroom | hfull
      · rw [hjoins hroom, hjoins' hroom, ← askArbiter_setBins]
        rfl
      · rw [hdrops hfull, hdrops' hfull]
        rfl

/-! ### The period (R111) -/

/-- R111: the end of a running event that has asked for a BINSTATE, and touched no more than that. -/
theorem finish_askBinstate {s : State} (hrun : s.running = true) :
    let q := s.enqueueOwn s.binstateFrame
    let t := s.askBinstate.finish
    t.port = q.port ∧ t.ltu = q.ltu ∧ t.counters = q.counters ∧ t.bins.recs = s.bins.recs ∧
      t.bins.periodTimer = some 500000000 ∧ SameBut binstateParts s t := by
  intro q t
  have hasked : s.askBinstate.bins.asked = true := rfl
  have hframe : s.askBinstate.binstateFrame = s.binstateFrame := rfl
  have hrun' : s.askBinstate.running = true := hrun
  have hanswer : t = ((q.setBins { s.askBinstate.bins with
      asked := false, periodTimer := Timer.start Config.binstateMs })).showLamp := by
    simp only [t, State.finish, State.answerAsked, hasked, hrun', if_true, State.requestBinstate, hframe]
    rw [enqueueOwn_setBins, State.askBinstate, enqueueOwn_setBins]
    rfl
  refine ⟨?_, ?_, ?_, ?_, finish_period hasked hrun', ?_⟩
  · simp [hanswer]
  · simp [hanswer]
  · simp [hanswer]
  · simp [t, State.askBinstate]
  · exact SameBut.finish (by simp [sameBut_iff, State.askBinstate, binstateParts]) (by decide)

/-- Settles O41. -/
theorem binstatePeriodQueuesFrame : Obligations.BinstatePeriodQueuesFrame := by
  unfold Obligations.BinstatePeriodQueuesFrame
  refine ⟨fun s dt hrun htimer => ?_, fun s b => rfl, fun s f => ⟨enqueueOwn_bypassed f, fun hlink =>
    ⟨enqueueOwn_replaces hlink, enqueueOwn_joins hlink⟩⟩, fun s => ⟨askArbiter_stands, fun f u => askArbiter_sends⟩⟩
  have heff : effect (.binstatePeriodTimer dt) (s.elapse dt) = (s.elapse dt).askBinstate :=
    if_pos (by simp [hrun, htimer.due])
  have hframe : (s.elapse dt).binstateFrame = ⟨0x33, 0, s.ctl.address, 32,
      encodeHeader s.ctl.mode s.pos.cond :: (s.cfg.configuredBins.map s.binReport).flatMap encodeReport⟩ := by
    have hcond : (s.elapse dt).pos.cond = s.pos.cond := by simp
    have hmine : (s.elapse dt).binstateFrame = ⟨0x33, 0, s.ctl.address, 32, encodeHeader s.ctl.mode
      (s.elapse dt).pos.cond :: (s.cfg.configuredBins.map s.binReport).flatMap encodeReport⟩ := rfl
    rw [hmine, hcond]
  obtain ⟨hport, hltu, hcount, hrecs, hperiod, hsame⟩ := finish_askBinstate (s := s.elapse dt) hrun
  refine ⟨_, exec_answers heff, hperiod, hrecs, hsame, ?_⟩
  rw [← hframe]
  refine ⟨⟨hport, hltu, hcount⟩, fun hlink htx hempty => ?_⟩
  rw [hltu, enqueueOwn_waits (by simpa using hlink) (.inr (by simp [LoopTraffic.holds, hempty])) (by simp [hempty])
    (by simpa using htx)]
  simp [hempty, hframe]

end Sys2Proof.Machine

/-! The receiver cell by cell: marks, line errors, bits and idle runs (R138, R139, R141, R142). -/

namespace Sys2Proof.Machine

/-! ### A quiet event on the line -/

/-- The end of an event that asks for no BINSTATE. -/
theorem line_answers {c : Instr} {s u : State} {dt : Nat} (heff : effect c (s.elapse (elapsedBy c)) = u)
    (hasked : s.bins.asked = false) (hbins : u.bins = (s.elapse dt).bins) :
    exec c s = .next u.finish ∧ u.finish.port = u.port ∧ u.finish.counters = u.counters ∧ u.finish.ltu = u.ltu ∧
      ∀ ch, SameBut ch (s.elapse dt) u → SameBut ch (s.elapse dt) u.finish := by
  have hquiet : u.bins.asked = false := by
    rw [hbins]
    exact elapse_asked_of dt hasked
  obtain ⟨-, hport, hltu, hcount⟩ := finish_unasked hquiet
  exact ⟨exec_answers heff, hport, hcount, hltu, fun ch h => h.finish_quiet hquiet⟩

/-! ### Cells (R138) -/

/-- R138: a cell that is not the third VIOLATION in a row. -/
theorem receiveCell_eq {s : State} {c : CellClass} (h : c = .violation → s.port.violationRun < 2) :
    s.receiveCell c = if s.port.pairOpen then (s.setPort (s.port.note c)).pairCell c
      else (s.setPort (s.port.note c)).plainCell c := by
  have hthird : ¬ ((s.setPort (s.port.note c)).port.violationRun = 3 ∧ (s.setPort (s.port.note c)).port.rx ≠ .loss) := by
    rintro ⟨hrun, -⟩
    by_cases hc : c = .violation
    · have := h hc
      simp only [setPort_port, LoopPort.note, hc, if_true] at hrun
      omega
    · simp [LoopPort.note, hc] at hrun
  rw [State.receiveCell]
  exact if_neg hthird

/-- R138, R139: the port after the VIOLATION of a mark and a cell time. -/
def LoopPort.markBegun (p : LoopPort) : LoopPort := { p with violationRun := 1, silence := 500, idleRun := 0 }

/-- R139: the VIOLATION that opens a mark, at a byte boundary or outside a frame. -/
theorem receivePair_first {s : State} (c : CellClass) (hrun : s.port.violationRun = 0)
    (hplace : s.port.rx ≠ .frame ∨ s.port.bits = []) :
    s.receivePair c = (s.setPort s.port.markBegun).receiveCell c := by
  have hpair : s.port.pairOpen = false := by simp [LoopPort.pairOpen, hrun]
  have hfirst : s.receiveCell .violation =
      s.setPort { s.port with violationRun := 1, silence := 0, idleRun := 0 } := by
    rw [receiveCell_eq (by omega), hpair]
    have hnote : s.port.note .violation = { s.port with violationRun := 1, silence := 0 } := by
      simp [LoopPort.note, hrun]
    rw [hnote]
    simp only [Bool.false_eq_true, if_false, State.plainCell, setPort_port]
    cases hrx : s.port.rx with
    | loss => rfl
    | idle => rfl
    | frame =>
      have hbits : s.port.bits = [] := hplace.resolve_left (fun h => h hrx)
      simp only [hbits, if_true]
      rfl
  have hpassed : (s.setPort { s.port with violationRun := 1, silence := 0, idleRun := 0 }).cellTimePasses =
      s.setPort s.port.markBegun := by
    simp [LoopPort.markBegun, Config.cellNs, Config.silenceCells]
    rfl
  rw [State.receivePair, hpair, hfirst, ← hpassed]
  rfl

/-- R139: the second cell of a pair, where marks are read. -/
theorem receiveCell_second {s : State} (c : CellClass) (hrun : s.port.violationRun = 1) (hrx : s.port.rx ≠ .loss) :
    s.receiveCell c = (s.setPort (s.port.note c)).pairCell c := by
  have hpair : s.port.pairOpen = true := by simp [LoopPort.pairOpen, hrun, hrx]
  rw [receiveCell_eq (by omega), hpair]
  rfl

theorem pairCell_zero (s : State) : s.pairCell .zero = s.discardTo .frame := by
  unfold State.pairCell
  cases s.port.rx <;> rfl

theorem pairCell_violation (s : State) : s.pairCell .violation = s.discardTo .idle := by
  unfold State.pairCell
  cases s.port.rx <;> rfl

theorem pairCell_empty (s : State) : s.pairCell .empty = s.discardTo .idle := by
  unfold State.pairCell
  cases s.port.rx <;> rfl

/-! ### Cells outside a frame (R138, R141) -/

theorem plainCell_one {s : State} (h : s.port.rx ≠ .frame) : s.plainCell .one = s.idleOne := by
  unfold State.plainCell
  cases hrx : s.port.rx with
  | loss => rfl
  | idle => rfl
  | frame => exact absurd hrx h

theorem plainCell_other {s : State} {c : CellClass} (h : s.port.rx ≠ .frame) (hc : c ≠ .one) :
    s.plainCell c = s.setPort { s.port with idleRun := 0 } := by
  unfold State.plainCell
  cases hrx : s.port.rx with
  | loss => cases c <;> simp_all [State.idleZero]
  | idle => cases c <;> simp_all [State.idleZero]
  | frame => exact absurd hrx h

theorem idleOne_counts {s : State} (h : s.port.idleRun < 31) :
    s.idleOne = s.setPort { s.port with idleRun := s.port.idleRun + 1 } := by
  rw [State.idleOne, if_neg (by omega), Nat.min_eq_right (by omega)]

/-! ### Cells within a frame (R142) -/

/-- R138: a cell with no VIOLATION before it. -/
theorem receiveCell_plain {s : State} (c : CellClass) (h : s.port.violationRun = 0) :
    s.receiveCell c = (s.setPort (s.port.note c)).plainCell c := by
  have hpair : s.port.pairOpen = false := by simp [LoopPort.pairOpen, h]
  rw [receiveCell_eq (by omega), hpair]
  rfl

theorem plainCell_empty {s : State} (h : s.port.rx = .frame) : s.plainCell .empty = s.discardTo .idle := by
  unfold State.plainCell
  rw [h]

theorem plainCell_violation {s : State} (h : s.port.rx = .frame) (hbits : s.port.bits ≠ []) :
    s.plainCell .violation = s.discardTo .idle := by
  unfold State.plainCell
  rw [h]
  exact if_neg hbits

theorem plainCell_bit {s : State} (b : Bool) (h : s.port.rx = .frame) :
    s.plainCell (if b then .one else .zero) = s.gatherBit b := by
  unfold State.plainCell
  rw [h]
  cases b <;> rfl

theorem gatherBit_within {s : State} (b : Bool) (h : s.port.bits.length < 7) :
    s.gatherBit b = s.setPort { s.port with bits := s.port.bits ++ [b], idleRun := 0 } := by
  have hlen : (s.port.bits ++ [b]).length < 8 := by
    rw [List.length_append, List.length_singleton]
    omega
  exact if_pos hlen

theorem gatherBit_last {s : State} (b : Bool) (h : s.port.bits.length = 7) :
    (s.port.buffer.length < 67 → s.gatherBit b = s.setPort { s.port with
      bits := [], buffer := s.port.buffer ++ [byteOf (byteOfBits (s.port.bits ++ [b]))], idleRun := 0 }) ∧
    (67 ≤ s.port.buffer.length → s.gatherBit b = s.discardTo .idle) := by
  have hlen : ¬ (s.port.bits ++ [b]).length < 8 := by simp [h]
  unfold State.gatherBit
  rw [if_neg hlen]
  exact ⟨fun hroom => if_neg (Nat.not_le.mpr hroom), fun hfull => if_pos hfull⟩

/-! ### A frame discarded (R142, R143) -/

/-- The port as a receiver in state `rx` leaves it, the buffer empty. -/
def LoopPort.emptied (p : LoopPort) (rx : RxState) : LoopPort := { p with rx := rx, buffer := [], bits := [], idleRun := 0 }

/-- R142, R143: the receiver goes to `rx`; an open frame is a line drop. -/
theorem discardTo_spec (s : State) (rx : RxState) : (s.discardTo rx).port = s.port.emptied rx ∧
    SameBut [.port, .counters] s (s.discardTo rx) ∧ (s.port.rx = .frame → DropCounted s (s.discardTo rx)) ∧
    (s.port.rx ≠ .frame → SameBut [.port] s (s.discardTo rx)) := by
  unfold State.discardTo
  split
  · next hframe =>
    refine ⟨?_, ?_, fun _ => ?_, fun h => absurd hframe h⟩
    · unfold State.lineDrop
      split <;> rfl
    · unfold State.lineDrop
      split <;> simp [sameBut_iff, State.receiverTo]
    · unfold DropCounted State.lineDrop
      split <;> simp_all [State.receiverTo, State.count]
  · next hnot => exact ⟨rfl, by simp [sameBut_iff, State.receiverTo], fun h => absurd h hnot,
      fun _ => by simp [sameBut_iff, State.receiverTo]⟩

/-- A part that `ch` does not name is the same. -/
theorem SameBut.bins {ch : List Part} {s t : State} (h : SameBut ch s t) (hch : Part.bins ∉ ch) : t.bins = s.bins :=
  h .bins hch

/-- R142: an event of the line whose work on the port ends in a discard. -/
theorem line_discards {c : Instr} {s : State} {dt : Nat} {p : LoopPort} {rx : RxState}
    (heff : effect c (s.elapse (elapsedBy c)) = ((s.elapse dt).setPort p).discardTo rx) (hasked : s.bins.asked = false)
    (hrx : p.rx = s.port.rx) (hlink : p.link = s.port.link) :
    ∃ t, exec c s = .next t ∧ t.port = p.emptied rx ∧ SameBut [.port, .counters] (s.elapse dt) t ∧
      (s.port.rx = .frame → DropCounted s t) ∧ (s.port.rx ≠ .frame → SameBut [.port] (s.elapse dt) t) := by
  obtain ⟨hport, hsame, hdrop, hquiet⟩ := discardTo_spec ((s.elapse dt).setPort p) rx
  have hset : SameBut [.port] (s.elapse dt) ((s.elapse dt).setPort p) := by simp [sameBut_iff]
  have hall := (hset.mono (by decide)).trans hsame
  obtain ⟨hexec, hport', hcount, -, hends⟩ := line_answers heff hasked (hall.bins (by decide))
  refine ⟨_, hexec, hport'.trans hport, hends _ hall, fun hframe => ?_, fun hnot => ?_⟩
  · have hmine := hdrop (hrx.trans hframe)
    unfold DropCounted at hmine ⊢
    rw [hcount, hmine, setPort_port, hlink]
    rfl
  · exact hends _ (hset.trans (hquiet (by rwa [setPort_port, hrx])))

end Sys2Proof.Machine

/-! Marks, line errors, bits and idle runs as events (R138, R139, R141, R142). -/

namespace Sys2Proof.Machine

/-- An event of the line that changes the Loop Port alone. -/
theorem line_sets {c : Instr} {s : State} {dt : Nat} {p : LoopPort}
    (heff : effect c (s.elapse (elapsedBy c)) = (s.elapse dt).setPort p) (hasked : s.bins.asked = false) :
    ∃ t, exec c s = .next t ∧ t.port = p ∧ SameBut [.port] (s.elapse dt) t := by
  obtain ⟨hexec, hport, -, -, hends⟩ := line_answers heff hasked rfl
  exact ⟨_, hexec, hport, hends _ (by simp [sameBut_iff])⟩

section
variable {s : State} {dt : Nat} (h : s.listening = true)
include h

/-! Section 8.9: what a receiver that listens does with an event of the line. -/

theorem effect_openMark : effect (.openMark dt) (s.elapse dt) = (s.elapse dt).receivePair .zero := if_pos h

theorem effect_abortMark : effect (.abortMark dt) (s.elapse dt) = (s.elapse dt).receivePair .violation := if_pos h

theorem effect_closeMark : effect (.closeMark dt) (s.elapse dt) = (s.elapse dt).receivePair .one := if_pos h

theorem effect_lineError (kind : LineErrorKind) :
    effect (.lineError dt kind) (s.elapse dt) = (s.elapse dt).lineError kind := if_pos h

theorem effect_frameTooLong : effect (.frameTooLong dt) (s.elapse dt) = (s.elapse dt).frameTooLong := if_pos h

theorem effect_cellReceived (c : CellClass) :
    effect (.cellReceived dt c) (s.elapse dt) = (s.elapse dt).receiveCell c := if_pos h

theorem effect_lossEntry (cause : LossCause) :
    effect (.lossEntry dt cause) (s.elapse dt) = (s.elapse dt).lossEntry cause := if_pos h

theorem effect_lossReturn : effect (.lossReturn dt) (s.elapse dt) = (s.elapse dt).lossReturn := if_pos h

end

/-! ### Marks and lone violations (R139, R142) -/

/-- R139, R142: a pair that no close mark ends, where marks are read. -/
theorem receivePair_discards {u : State} (hrun : u.port.violationRun = 0) (hplace : u.port.rx = .idle ∨ u.port.rx = .frame ∧
    u.port.bits = []) :
    u.receivePair .zero = (u.setPort (u.port.markBegun.note .zero)).discardTo .frame ∧
    u.receivePair .violation = (u.setPort (u.port.markBegun.note .violation)).discardTo .idle ∧
    u.receivePair .empty = (u.setPort (u.port.markBegun.note .empty)).discardTo .idle := by
  have hfirst : u.port.rx ≠ .frame ∨ u.port.bits = [] := by
    rcases hplace with hidle | ⟨-, hbits⟩
    · exact .inl (by simp [hidle])
    · exact .inr hbits
  have hread : (u.setPort u.port.markBegun).port.rx ≠ .loss := by
    rcases hplace with hidle | ⟨hframe, -⟩
    · simp [LoopPort.markBegun, hidle]
    · simp [LoopPort.markBegun, hframe]
  have hpair : ∀ c, u.receivePair c = (u.setPort (u.port.markBegun.note c)).pairCell c := by
    intro c
    rw [receivePair_first c hrun hfirst, receiveCell_second c rfl hread]
    rfl
  rw [hpair, hpair, hpair, pairCell_zero, pairCell_violation, pairCell_empty]
  exact ⟨rfl, rfl, rfl⟩

/-- R140: in LOSS a pair's cells count toward the idle run alone. -/
theorem receivePair_loss {u : State} {c : CellClass} (hrun : u.port.violationRun = 0) (hloss : u.port.rx = .loss) :
    ∃ p : LoopPort, u.receivePair c = u.setPort p ∧ p.rx = .loss := by
  have hpair : (u.setPort u.port.markBegun).port.pairOpen = false := by
    simp [LoopPort.pairOpen, LoopPort.markBegun, hloss]
  have hcell : u.receivePair c = (u.setPort (u.port.markBegun.note c)).plainCell c := by
    rw [receivePair_first c hrun (.inl (by simp [hloss])), receiveCell_eq (fun _ => by simp [LoopPort.markBegun]), hpair]
    rfl
  rw [hcell]
  generalize hp : u.port.markBegun.note c = p
  have hrx : p.rx = .loss := by
    rw [← hp]
    exact hloss
  have hidle : p.idleRun = 0 := by
    rw [← hp]
    rfl
  have hnot : (u.setPort p).port.rx ≠ .frame := by simp [hrx]
  by_cases hc : c = .one
  · rw [hc, plainCell_one hnot, idleOne_counts (by simp [hidle])]
    exact ⟨_, rfl, hrx⟩
  · rw [plainCell_other hnot hc]
    exact ⟨_, rfl, hrx⟩

/-- R139, R142: what a mark or a lone violation that discards leaves of the port. -/
theorem markBegun_note (p : LoopPort) (c : CellClass) : (p.markBegun.note c).rx = p.rx ∧
    (p.markBegun.note c).link = p.link ∧
    (p.markBegun.note c).violationRun = (if c = .violation then 2 else 0) ∧
    (p.markBegun.note c).silence = (if c = .empty then 500 else 0) := ⟨rfl, rfl, rfl, rfl⟩

section
variable {s : State} {dt : Nat}

/-- R139, R142: an event that is a pair, where marks are read and no cell of a mark has come. -/
theorem pair_discards {c : Instr} {cell : CellClass} {rx : RxState}
    (heff : effect c (s.elapse (elapsedBy c)) =
      ((s.elapse dt).setPort ((s.elapse dt).port.markBegun.note cell)).discardTo rx) (hasked : s.bins.asked = false) :
    ∃ t, exec c s = .next t ∧ t.port.rx = rx ∧ t.port.buffer = [] ∧ t.port.bits = [] ∧ t.port.idleRun = 0 ∧
      t.port.violationRun = (if cell = .violation then 2 else 0) ∧
      t.port.silence = (if cell = .empty then 500 else 0) ∧
      SameBut [.port, .counters] (s.elapse dt) t ∧ (s.port.rx = .frame → DropCounted s t) ∧
      (s.port.rx ≠ .frame → SameBut [.port] (s.elapse dt) t) := by
  obtain ⟨hrx, hlink, hviolation, hsilence⟩ := markBegun_note (s.elapse dt).port cell
  obtain ⟨t, hexec, hport, hall, hdrop, hquiet⟩ := line_discards heff hasked (by simp [hrx]) (by simp [hlink])
  refine ⟨t, hexec, ?_⟩
  rw [hport]
  exact ⟨rfl, rfl, rfl, rfl, hviolation, hsilence, hall, hdrop, hquiet⟩

/-- R142: an event that is one cell of no pair, and discards the frame. -/
theorem cell_discards {c : Instr} {cell : CellClass} (hframe : s.port.rx = .frame)
    (heff : effect c (s.elapse (elapsedBy c)) =
      ((s.elapse dt).setPort ((s.elapse dt).port.note cell)).discardTo .idle) (hasked : s.bins.asked = false) :
    ∃ t, exec c s = .next t ∧ t.port.rx = .idle ∧ t.port.buffer = [] ∧
      t.port.violationRun = ((s.elapse dt).port.note cell).violationRun ∧ t.port.silence = ((s.elapse dt).port.note cell).silence ∧
      DropCounted s t ∧ SameBut [.port, .counters] (s.elapse dt) t := by
  obtain ⟨t, hexec, hport, hall, hdrop, -⟩ :=
    line_discards heff hasked (by simp [LoopPort.note]) (by simp [LoopPort.note])
  refine ⟨t, hexec, ?_⟩
  rw [hport]
  exact ⟨rfl, rfl, rfl, rfl, hdrop hframe, hall⟩

/-- R142: the cells that end a frame short of its close mark. -/
theorem frame_errors {u : State} (hframe : u.port.rx = .frame) (hrun : u.port.violationRun = 0) :
    u.lineError .strayEmpty = (u.setPort (u.port.note .empty)).discardTo .idle ∧
    (u.port.bits ≠ [] → u.lineError .violationInByte = (u.setPort (u.port.note .violation)).discardTo .idle) ∧
    (u.port.buffer.length = 67 → u.port.bits.length = 7 →
      u.frameTooLong = (u.setPort (u.port.note .zero)).discardTo .idle) := by
  have hpair : u.port.pairOpen = false := by simp [LoopPort.pairOpen, hrun]
  refine ⟨?_, fun hbits => ?_, fun hfull hlast => ?_⟩
  · rw [State.lineError, if_pos ⟨hframe, hpair⟩, receiveCell_plain _ hrun]
    exact plainCell_empty hframe
  · rw [State.lineError, if_pos ⟨hframe, hbits, hpair⟩, receiveCell_plain _ hrun]
    exact plainCell_violation hframe hbits
  · rw [State.frameTooLong, if_pos ⟨hframe, hpair, Nat.le_of_eq hfull.symm, hlast⟩, receiveCell_plain _ hrun]
    obtain ⟨-, hlong⟩ := gatherBit_last (s := u.setPort (u.port.note .zero)) false hlast
    exact (plainCell_bit (s := u.setPort (u.port.note .zero)) false hframe).trans (hlong (Nat.le_of_eq hfull.symm))

end

/-- Settles O42. -/
theorem marksAndErrorsOpenAndDiscardFrames : Obligations.MarksAndErrorsOpenAndDiscardFrames := by
  unfold Obligations.MarksAndErrorsOpenAndDiscardFrames
  refine ⟨fun s dt hlisten hasked hrun => ⟨fun hidle => ?_, fun hframe hbits => ?_, fun hframe => ?_, fun hloss _ => ?_⟩,
    fun s dt hlisten hasked hrun hrx => ?_⟩
  · obtain ⟨hzero, hviolation, hempty⟩ :=
      receivePair_discards (u := s.elapse dt) (by simpa using hrun) (.inl (by simpa using hidle))
    have hnot : s.port.rx ≠ .frame := by simp [hidle]
    obtain ⟨t1, hexec1, hrx1, hbuf1, hbits1, hidle1, -, -, -, -, hsame1⟩ :=
      pair_discards ((effect_openMark hlisten).trans hzero) hasked
    obtain ⟨t2, hexec2, hrx2, -, -, -, hrun2, -, -, -, hsame2⟩ :=
      pair_discards ((effect_abortMark hlisten).trans hviolation) hasked
    obtain ⟨t3, hexec3, hrx3, -, -, -, -, hsilence3, -, -, hsame3⟩ :=
      pair_discards ((effect_lineError hlisten .loneViolation).trans hempty) hasked
    exact ⟨⟨t1, hexec1, hrx1, hbuf1, hbits1, hidle1, hsame1 hnot⟩, ⟨t2, hexec2, hrx2, hrun2, hsame2 hnot⟩,
      ⟨t3, hexec3, hrx3, hsilence3, hsame3 hnot⟩⟩
  · obtain ⟨hzero, hviolation, hempty⟩ := receivePair_discards (u := s.elapse dt) (by simpa using hrun)
      (.inr ⟨by simpa using hframe, by simpa using hbits⟩)
    obtain ⟨t1, hexec1, hrx1, hbuf1, -, -, -, -, hsame1, hdrop1, -⟩ :=
      pair_discards ((effect_openMark hlisten).trans hzero) hasked
    obtain ⟨t2, hexec2, hrx2, hbuf2, -, -, -, -, hsame2, hdrop2, -⟩ :=
      pair_discards ((effect_abortMark hlisten).trans hviolation) hasked
    obtain ⟨t3, hexec3, hrx3, -, -, -, -, hsilence3, hsame3, hdrop3, -⟩ :=
      pair_discards ((effect_lineError hlisten .loneViolation).trans hempty) hasked
    exact ⟨⟨t1, hexec1, hrx1, hbuf1, hdrop1 hframe, hsame1⟩, ⟨t2, hexec2, hrx2, hbuf2, hdrop2 hframe, hsame2⟩,
      ⟨t3, hexec3, hrx3, hsilence3, hdrop3 hframe, hsame3⟩⟩
  · obtain ⟨hempty, hviolation, hlong⟩ :=
      frame_errors (u := s.elapse dt) (by simpa using hframe) (by simpa using hrun)
    refine ⟨?_, fun hbits => ?_, fun hfull hlast => ?_⟩
    · obtain ⟨t, hexec, hrx, -, -, -, hdrop, hsame⟩ :=
        cell_discards hframe ((effect_lineError hlisten .strayEmpty).trans hempty) hasked
      exact ⟨t, hexec, hrx, hdrop, hsame⟩
    · obtain ⟨t, hexec, hrx, -, hone, -, hdrop, hsame⟩ := cell_discards hframe
        ((effect_lineError hlisten .violationInByte).trans (hviolation (by simpa using hbits))) hasked
      refine ⟨t, hexec, hrx, ?_, hdrop, hsame⟩
      rw [hone]
      simp [LoopPort.note, hrun]
    · obtain ⟨t, hexec, hrx, hbuffer, -, -, hdrop, hsame⟩ := cell_discards hframe
        ((effect_frameTooLong hlisten).trans (hlong (by simpa using hfull) (by simpa using hlast))) hasked
      exact ⟨t, hexec, hrx, hbuffer, hdrop, hsame⟩
  · have hloss' : (s.elapse dt).port.rx = .loss := by simpa using hloss
    have hrun' : (s.elapse dt).port.violationRun = 0 := by simpa using hrun
    obtain ⟨p1, heff1, hrx1⟩ := receivePair_loss (c := .zero) hrun' hloss'
    obtain ⟨p2, heff2, hrx2⟩ := receivePair_loss (c := .violation) hrun' hloss'
    obtain ⟨p3, heff3, hrx3⟩ := receivePair_loss (c := .one) hrun' hloss'
    obtain ⟨t1, hexec1, hport1, hsame1⟩ := line_sets ((effect_openMark hlisten).trans heff1) hasked
    obtain ⟨t2, hexec2, hport2, hsame2⟩ := line_sets ((effect_abortMark hlisten).trans heff2) hasked
    obtain ⟨t3, hexec3, hport3, hsame3⟩ := line_sets ((effect_closeMark hlisten).trans heff3) hasked
    exact ⟨⟨t1, hexec1, by rw [hport1, hrx1], hsame1⟩, ⟨t2, hexec2, by rw [hport2, hrx2], hsame2⟩,
      ⟨t3, hexec3, by rw [hport3, hrx3], hsame3⟩⟩
  · have hpair : (s.elapse dt).port.pairOpen = true := by simp [LoopPort.pairOpen, hrun, hrx]
    have heff : effect (.lineError dt .loneViolation) (s.elapse dt) =
        ((s.elapse dt).setPort ((s.elapse dt).port.note .empty)).discardTo .idle := by
      rw [effect_lineError hlisten, State.lineError, State.receivePair, hpair, if_pos rfl,
        receiveCell_second _ (by simpa using hrun) (by simpa using hrx), pairCell_empty]
    obtain ⟨t, hexec, hport, hall, hdrop, hquiet⟩ :=
      line_discards heff hasked (by simp [LoopPort.note]) (by simp [LoopPort.note])
    obtain ⟨-, -, -, hsilence⟩ := elapse_port_timers s dt hlisten
    refine ⟨t, hexec, ?_⟩
    rw [hport]
    exact ⟨rfl, rfl, hsilence, fun hidle => hquiet (by simp [hidle]), fun hframe => ⟨hdrop hframe, hall⟩⟩

/-- Settles O43. -/
theorem cellsGatherBitsAndIdle : Obligations.CellsGatherBitsAndIdle := by
  unfold Obligations.CellsGatherBitsAndIdle
  intro s dt hlisten hasked hrun
  have hcell : ∀ c, effect (.cellReceived dt c) (s.elapse dt) =
      ((s.elapse dt).setPort ((s.elapse dt).port.note c)).plainCell c := by
    intro c
    rw [effect_cellReceived hlisten, receiveCell_plain c (by simpa using hrun)]
  refine ⟨fun b hframe => ?_, fun hnot => ⟨fun hidle => ?_, fun c hc => ?_⟩⟩
  · generalize hc : (if b then CellClass.one else .zero) = c
    have hbit := plainCell_bit (s := (s.elapse dt).setPort ((s.elapse dt).port.note c)) b (by simpa [LoopPort.note] using hframe)
    rw [hc] at hbit
    refine ⟨fun hwithin => ?_, fun hlast hroom => ?_⟩
    · have hbits := gatherBit_within (s := (s.elapse dt).setPort ((s.elapse dt).port.note c)) b
        (by simpa [LoopPort.note] using hwithin)
      obtain ⟨t, hexec, hport, hsame⟩ := line_sets ((hcell c).trans (hbit.trans hbits)) hasked
      refine ⟨t, hexec, ?_⟩
      rw [hport]
      exact ⟨by simp [LoopPort.note], by simp [LoopPort.note], by simpa [LoopPort.note] using hframe, hsame⟩
    · obtain ⟨hbyte, -⟩ := gatherBit_last (s := (s.elapse dt).setPort ((s.elapse dt).port.note c)) b
        (by simpa [LoopPort.note] using hlast)
      obtain ⟨t, hexec, hport, hsame⟩ :=
        line_sets ((hcell c).trans (hbit.trans (hbyte (by simpa [LoopPort.note] using hroom)))) hasked
      refine ⟨t, hexec, ?_⟩
      rw [hport]
      exact ⟨rfl, by simp [LoopPort.note], by simpa [LoopPort.note] using hframe, hsame⟩
  · have hone := plainCell_one (s := (s.elapse dt).setPort ((s.elapse dt).port.note .one)) (by simpa [LoopPort.note] using hnot)
    have hcounts := idleOne_counts (s := (s.elapse dt).setPort ((s.elapse dt).port.note .one))
      (by simpa [LoopPort.note] using hidle)
    obtain ⟨t, hexec, hport, hsame⟩ := line_sets ((hcell .one).trans (hone.trans hcounts)) hasked
    refine ⟨t, hexec, ?_⟩
    rw [hport]
    exact ⟨by simp [LoopPort.note], by simp [LoopPort.note], hsame⟩
  · have hzero := plainCell_other (s := (s.elapse dt).setPort ((s.elapse dt).port.note c))
      (by simpa [LoopPort.note] using hnot) hc
    obtain ⟨t, hexec, hport, hsame⟩ := line_sets ((hcell c).trans hzero) hasked
    refine ⟨t, hexec, ?_⟩
    rw [hport]
    exact ⟨rfl, by simp [LoopPort.note], hsame⟩

end Sys2Proof.Machine

/-! A close mark at a byte boundary: the checks, the dispatch, and an address clash (R143, R155 to R157, R161, R181). -/

namespace Sys2Proof.Machine

/-! ### The header check (R155) -/

theorem lengthAllowed_iff (kind len : Nat) : lengthAllowed kind len = true ↔
    (kind = 0x11 → len = 11) ∧ (kind = 0x22 → len ∈ [14, 17, 20, 23]) ∧ (kind = 0x33 → len ∈ [1, 9, 17, 25, 33]) ∧
    (kind = 0x44 → len = 39) := by
  unfold lengthAllowed
  simp only [Config.kindRoll, Config.kindTicket, Config.kindBinstate, Config.kindStatus]
  by_cases hroll : kind = 17
  · simp [hroll]
  by_cases hticket : kind = 34
  · simp [hticket]
  by_cases hbinstate : kind = 51
  · simp [hbinstate]
  by_cases hstatus : kind = 68
  · simp [hstatus]
  · simp [hroll, hticket, hbinstate, hstatus]

theorem headerOk_iff (f : Frame) : f.headerOk = true ↔
    1 ≤ f.origin ∧ f.origin ≤ 16 ∧ f.dest ≤ 16 ∧ lengthAllowed f.kind f.payload.length = true := by
  simp [Frame.headerOk, and_assoc]

/-! ### The closed frame (R143) -/

/-- R143: the port as a close mark at a byte boundary leaves it. -/
def LoopPort.closed (p : LoopPort) : LoopPort := (p.markBegun.note .one).emptied .idle

theorem pairCell_close {s : State} (h : s.port.rx = .frame) : s.pairCell .one = s.closeFrame := by
  unfold State.pairCell
  rw [h]

/-- R139, R143: a close mark at a byte boundary in FRAME. -/
theorem effect_closeFrame {s : State} {dt : Nat} (hlisten : s.listening = true) (hrun : s.port.violationRun = 0)
    (hframe : s.port.rx = .frame) (hbits : s.port.bits = []) :
    effect (.closeMark dt) (s.elapse dt) =
      if accepted s.port.buffer then
        if s.port.link = .bypassed then (s.elapse dt).setPort (s.elapse dt).port.closed
        else ((s.elapse dt).setPort (s.elapse dt).port.closed).frameArrival (frameOfBytes s.port.buffer)
      else ((s.elapse dt).setPort (s.elapse dt).port.closed).lineDrop := by
  have hread : ((s.elapse dt).setPort (s.elapse dt).port.markBegun).port.rx ≠ .loss := by
    simp [LoopPort.markBegun, hframe]
  have hpair : (s.elapse dt).receivePair .one =
      ((s.elapse dt).setPort ((s.elapse dt).port.markBegun.note .one)).closeFrame := by
    rw [receivePair_first _ (by simpa using hrun) (.inr (by simpa using hbits)), receiveCell_second _ rfl hread]
    exact pairCell_close (by simp [LoopPort.note, LoopPort.markBegun, hframe])
  have hbuffer : (s.elapse dt).port.buffer = s.port.buffer := by simp
  have hlink : (s.elapse dt).port.link = s.port.link := by simp
  rw [effect_closeMark hlisten, hpair, ← hbuffer, ← hlink]
  rfl

/-- The port of a closed frame, but for the receiver. -/
theorem closed_port (s : State) (dt : Nat) : (s.elapse dt).port.closed.rx = .idle ∧ (s.elapse dt).port.closed.buffer = [] ∧
    (s.elapse dt).port.closed.link = s.port.link ∧ (s.elapse dt).port.closed.tx = s.port.tx := by
  refine ⟨rfl, rfl, ?_, ?_⟩
  · exact (show _ = (s.elapse dt).port.link from rfl).trans (by simp)
  · exact (show _ = (s.elapse dt).port.tx from rfl).trans (by simp)

/-! ### What the dispatch of an accepted frame does (R156, R157, R161) -/

/-- R161: a frame for another station joins the transit queue, behind a transmitter that is not FREE. -/
theorem repeatFrame_waits {s : State} {f : Frame} (hhop : 2 ≤ f.hop) (hroom : s.ltu.transitQueue.length < 6)
    (htx : s.port.tx ≠ .free) : s.repeatFrame f =
      s.setLtu { s.ltu with transitQueue := s.ltu.transitQueue ++ [{ f with hop := f.hop - 1 }] } := by
  have hpasses : ¬ (f.hop < 2 ∨ Config.transitQueueMax ≤ s.ltu.transitQueue.length) := by
    simp only [Config.transitQueueMax]
    omega
  rw [State.repeatFrame, if_neg hpasses]
  exact if_neg htx

/-- R157: the own ROLL that has come home closes the ring. -/
theorem ownRollReturned_joined {s : State} (hlink : s.port.link ≠ .bypassed) :
    s.ownRollReturned.port.link = .joined ∧ SameBut [.port] s s.ownRollReturned := by
  unfold State.ownRollReturned
  split
  · exact ⟨rfl, by simp [sameBut_iff]⟩
  · next hnot =>
    refine ⟨?_, SameBut.refl _ _⟩
    cases hstate : s.port.link <;> simp_all

/-- R146: the end of the transmitter looks at the transmitter alone. -/
theorem leaveRing_of_same {p q : LoopPort} (htx : q.tx = p.tx) (htimer : q.txTimer = p.txTimer)
    (hrelay : q.relayDrive = p.relayDrive) : q.leaveRing.tx = p.leaveRing.tx ∧
      q.leaveRing.txTimer = p.leaveRing.txTimer ∧ q.leaveRing.relayDrive = p.leaveRing.relayDrive := by
  unfold LoopPort.leaveRing
  rw [htx]
  cases p.tx <;> simp [LoopPort.cutFrame, htimer, hrelay, htx]

theorem hear_same (s : State) (origin : Nat) : SameBut [.ltu] s (s.hear origin) := by simp [sameBut_iff]

theorem lineDrop_spec (s : State) : s.lineDrop.port = s.port ∧ DropCounted s s.lineDrop ∧ SameBut [.counters] s s.lineDrop := by
  unfold State.lineDrop DropCounted
  split <;> simp_all [sameBut_iff, State.count]

/-- The end of a closed frame's event whose work touches no bin. -/
theorem close_answers {s u : State} {dt : Nat} (heff : effect (.closeMark dt) (s.elapse dt) = u)
    (hasked : s.bins.asked = false) {ch : List Part} (hsame : SameBut ch (s.elapse dt) u) (hch : Part.bins ∉ ch) :
    ∃ t, exec (.closeMark dt) s = .next t ∧ t.port = u.port ∧ t.counters = u.counters ∧ t.ltu = u.ltu ∧
      SameBut ch (s.elapse dt) t := by
  obtain ⟨hexec, hport, hcount, hltu, hends⟩ := line_answers heff hasked (hsame.bins hch)
  exact ⟨_, hexec, hport, hcount, hltu, hends ch hsame⟩

/-- R181: what an address clash leaves, from the state that the closed frame leaves. -/
theorem clash_finish (v : State) :
    let t := v.clash.finish
    t.ctl.mode = .halted ∧ t.ctl.haltCode = 6 ∧ t.ctl.clockRunning = false ∧ t.ctl.clock = v.ctl.clock ∧
    t.ctl.heldMode = none ∧ t.gate = v.gate.halted ∧ t.ej = Quad.all Ejector.reset ∧ t.retention = v.retention ∧
    t.counters = v.counters ∧ t.pos = v.pos ∧ t.trk = TrackingUnit.reset v.retention.serial ∧
    t.bins = v.bins.halted ∧ t.port = { v.port.leaveRing with link := .bypassed, lossTimer := none, joinTimer := none } ∧
    t.ltu = { LoopTraffic.reset with peers := v.ltu.peers } := by
  intro t
  obtain ⟨hbins, hport, hltu, hcount⟩ := finish_unasked (s := v.clash) rfl
  simp only [t, hbins, hport, hltu, hcount, finish_frame, finish_ctl]
  exact ⟨rfl, rfl, rfl, rfl, rfl, rfl, rfl, rfl, rfl, rfl, rfl, rfl, rfl, rfl⟩

/-- R155: what the heard frame leaves for the dispatch to read. -/
theorem heard_fields (s : State) (dt : Nat) (p : LoopPort) (origin : Nat) :
    let v := ((s.elapse dt).setPort p).hear origin
    v.ctl.address = s.ctl.address ∧ v.ltu.transitQueue = s.ltu.transitQueue ∧ v.ownRoll false = s.ownRoll false ∧
    v.port = p ∧ v.retention = s.retention ∧ v.counters = s.counters ∧ v.pos = (s.elapse dt).pos ∧
    v.ctl.clock = (s.elapse dt).ctl.clock ∧ v.bins = (s.elapse dt).bins := by
  intro v
  exact ⟨by simp [v], rfl, rfl, rfl, rfl, rfl, rfl, rfl, rfl⟩

/-- Settles O44. -/
theorem closeMarkChecksAndDispatches : Obligations.CloseMarkChecksAndDispatches := by
  unfold Obligations.CloseMarkChecksAndDispatches
  intro s dt hlisten hasked hrun hframe hbits f
  have heff := effect_closeFrame (dt := dt) hlisten hrun hframe hbits
  obtain ⟨hrx, hbuffer, hlink, htx⟩ := closed_port s dt
  have hset : SameBut [.port] (s.elapse dt) ((s.elapse dt).setPort (s.elapse dt).port.closed) := by simp [sameBut_iff]
  generalize hs1 : (s.elapse dt).setPort (s.elapse dt).port.closed = s1 at heff hset
  have hport1 : s1.port = (s.elapse dt).port.closed := by rw [← hs1, setPort_port]
  have hcount1 : s1.counters = s.counters := by rw [← hs1]; rfl
  refine ⟨fun hbad => ?_, fun hgood hbypassed => ?_, fun hgood hring hbad => ?_, headerOk_iff f, lengthAllowed_iff,
    fun hgood hring hok => ?_⟩
  · rw [hbad, if_neg Bool.false_ne_true] at heff
    obtain ⟨hportd, hdrop, hsame⟩ := lineDrop_spec s1
    obtain ⟨t, hexec, hport, hcount, -, hends⟩ := close_answers (ch := [.port, .counters]) heff hasked
      ((hset.mono (by decide)).trans (hsame.mono (by decide))) (by decide)
    refine ⟨t, hexec, ?_, ?_, ?_, hends⟩
    · rw [hport, hportd, hport1, hrx]
    · rw [hport, hportd, hport1, hbuffer]
    · unfold DropCounted at hdrop ⊢
      rw [hcount, hdrop, hport1, hlink, hcount1]
  · rw [hgood, if_pos rfl, if_pos hbypassed] at heff
    obtain ⟨t, hexec, hport, -, -, hends⟩ := close_answers heff hasked hset (by decide)
    exact ⟨t, hexec, by rw [hport, hport1, hrx], hends⟩
  · rw [hgood, if_pos rfl, if_neg hring, State.frameArrival, hbad, if_neg Bool.false_ne_true] at heff
    obtain ⟨t, hexec, hport, hcount, -, hends⟩ := close_answers (ch := [.port, .counters]) heff hasked
      ((hset.mono (by decide)).trans (by simp [sameBut_iff])) (by decide)
    refine ⟨t, hexec, ?_, ?_, hends⟩
    · rw [hport]
      exact (congrArg LoopPort.rx hport1).trans hrx
    · rw [hcount, ← hcount1]
      rfl
  · rw [hgood, if_pos rfl, if_neg hring, State.frameArrival, hok, if_pos rfl] at heff
    have hheard : SameBut [.port, .ltu] (s.elapse dt) (s1.hear f.origin) :=
      (hset.mono (by decide)).trans ((hear_same s1 f.origin).mono (by decide))
    have hfields := heard_fields s dt (s.elapse dt).port.closed f.origin
    rw [hs1] at hfields
    generalize hv : s1.hear f.origin = v at heff hheard hfields
    obtain ⟨haddress, hqueue, hroll, hportv, hret, hcountv, hpos, hclock, hbins⟩ := hfields
    refine ⟨⟨s1, ?_, ?_, ?_, ?_, hset, ?_⟩, fun hforeign hother hone hhop hroom hbusy => ?_,
      fun hown hkind hmine => ?_, fun hown hkind hclash => ?_⟩
    · rw [hport1, hrx]
    · rw [hport1, hbuffer]
    · rw [hport1, hlink]
    · rw [hport1, htx]
    · rw [hv]
      exact exec_answers heff
    · have hdispatch : v.dispatch f = v.repeatFrame f := by
        simp only [State.dispatch, haddress, if_neg hforeign, if_neg hother, if_neg hone]
      rw [hdispatch, repeatFrame_waits hhop (by rwa [hqueue]) (by rwa [hportv, htx])] at heff
      obtain ⟨t, hexec, hport, -, hltu, hends⟩ := close_answers (ch := [.port, .ltu]) heff hasked
        (hheard.trans (by simp [sameBut_iff])) (by decide)
      refine ⟨t, hexec, ?_, ?_, hends⟩
      · rw [hport, setLtu_port, hportv, hrx]
      · rw [hltu, setLtu_ltu, hqueue]
    · have hdispatch : v.dispatch f = v.ownRollReturned := by
        simp only [State.dispatch, State.strip, State.strippedRoll, haddress, hroll, hown, hkind, hmine, Config.kindRoll, if_true]
      obtain ⟨hjoined, hsame⟩ := ownRollReturned_joined (s := v) (by rwa [hportv, hlink])
      rw [hdispatch] at heff
      obtain ⟨t, hexec, hport, -, -, hends⟩ := close_answers (ch := [.port, .ltu]) heff hasked
        (hheard.trans (hsame.mono (by decide))) (by decide)
      exact ⟨t, hexec, by rw [hport, hjoined], hends⟩
    · have hdispatch : v.dispatch f = v.clash := by
        simp [State.dispatch, State.strip, State.strippedRoll, haddress, hroll, hown, hkind, hclash, Config.kindRoll]
      rw [hdispatch] at heff
      obtain ⟨hmode, hcode, hstopped, hclock', hheld, hgate, hej, hret', hcount', hpos', htrk, hbins', hport', hltu'⟩ :=
        clash_finish v
      obtain ⟨htx', htimer', hrelay'⟩ := leaveRing_of_same (p := (s.elapse dt).port) (q := v.port)
        (by rw [hportv]; rfl) (by rw [hportv]; rfl) (by rw [hportv]; rfl)
      refine ⟨_, exec_answers heff, hmode, hcode, ?_⟩
      rw [hport', hltu', htrk, hgate, hbins', hej, hret', hcount', hpos', hclock', hheld, hstopped, hret, hbins]
      refine ⟨rfl, rfl, rfl, rfl, rfl, rfl, fun b => ?_, fun b => ?_, rfl, rfl, hcountv, hpos, rfl, rfl, rfl, rfl, rfl,
        hclock, rfl, ⟨htx', htimer', hrelay'⟩, rfl, rfl, rfl, rfl, rfl⟩
      · simp [BinUnit.halted]
      · simp [BinUnit.halted]

end Sys2Proof.Machine

/-! The entry to LOSS and the return from it (R140, R141, R150, R151). -/

namespace Sys2Proof.Machine

/-- R140, R150: what the entry to LOSS leaves of the port. -/
theorem enterLoss_spec (u : State) :
    u.enterLoss.port = { u.port.emptied .loss with lossTimer := lossTimerFor .loss u.port.link u.port.lossTimer } ∧
    SameBut [.port, .counters] u u.enterLoss ∧ (u.port.rx = .frame → DropCounted u u.enterLoss) ∧
    (u.port.rx ≠ .frame → u.enterLoss.counters = u.counters) := by
  obtain ⟨hport, hall, hdrop, hsame⟩ := discardTo_spec u .loss
  have hcount : u.enterLoss.counters = (u.discardTo .loss).counters := rfl
  refine ⟨?_, hall.trans (by simp [sameBut_iff, State.enterLoss]), fun hframe => ?_, fun hnot => ?_⟩
  · rw [State.enterLoss, setPort_port, hport]
    rfl
  · have hmine := hdrop hframe
    unfold DropCounted at hmine ⊢
    rw [hcount, hmine]
  · rw [hcount]
    exact hsame hnot .counters (by decide)

/-- R140: each of the two causes of LOSS. -/
theorem lossEntry_enters {u : State} {cause : LossCause} (hrx : u.port.rx ≠ .loss)
    (hthird : cause = .thirdViolation → u.port.violationRun = 2) (hsilence : cause = .silence → 4000 ≤ u.port.silence) :
    ∃ p : LoopPort, u.lossEntry cause = (u.setPort p).enterLoss ∧ p.rx = u.port.rx ∧ p.link = u.port.link ∧
      p.lossTimer = u.port.lossTimer := by
  cases cause with
  | thirdViolation =>
    have hrun := hthird rfl
    refine ⟨u.port.note .violation, ?_, rfl, rfl, rfl⟩
    have hnote : (u.setPort (u.port.note .violation)).port.violationRun = 3 ∧
        (u.setPort (u.port.note .violation)).port.rx ≠ .loss := by
      simp [LoopPort.note, hrun, hrx]
    rw [State.lossEntry, if_pos ⟨hrx, hrun⟩, State.receiveCell]
    exact if_pos hnote
  | silence =>
    refine ⟨u.port, ?_, rfl, rfl, rfl⟩
    rw [State.lossEntry]
    exact if_pos ⟨hrx, hsilence rfl⟩

/-- R141, R151: the 32nd idle cell in LOSS. -/
theorem lossReturn_ends {u : State} (hrx : u.port.rx = .loss) (hidle : u.port.idleRun = 31) :
    ∃ p : LoopPort, p.rx = .idle ∧ p.idleRun = 32 ∧ p.lossTimer = none ∧ p.link = u.port.link ∧
      u.lossReturn = if u.port.link = .severed then (u.setPort p).join else u.setPort p := by
  have hpair : u.port.pairOpen = false := by simp [LoopPort.pairOpen, hrx]
  have hcell : u.lossReturn = (u.setPort (u.port.note .one)).idleOne := by
    rw [State.lossReturn, if_pos ⟨hrx, hidle⟩, receiveCell_eq (by simp), hpair]
    exact plainCell_one (by simp [LoopPort.note, hrx])
  refine ⟨{ u.port.note .one with idleRun := 32, rx := .idle, lossTimer := none }, rfl, rfl, rfl, rfl, ?_⟩
  rw [hcell, State.idleOne, if_pos (by simpa [LoopPort.note] using hidle)]
  rfl

/-- R148, R151: what the return from SEVERED leaves of the receiver. -/
theorem join_receiver {u : State} (hrx : u.port.rx = .idle) : u.join.port.rx = .idle ∧
    u.join.port.idleRun = u.port.idleRun ∧ u.join.port.lossTimer = none ∧ u.join.port.link = .joining ∧
    SameBut [.port, .ltu, .counters] u u.join := by
  obtain ⟨hlink, -, -, -, -⟩ := join_link u
  have hkept : u.join.port.rx = u.port.rx ∧ u.join.port.idleRun = u.port.idleRun ∧
      u.join.port.lossTimer = lossTimerFor u.port.rx .joining u.port.lossTimer := by
    unfold State.join
    dsimp only
    split <;> simp [State.requestJoiningRoll, State.toLink, LoopPort.gap]
  obtain ⟨hrx', hidle, htimer⟩ := hkept
  refine ⟨hrx'.trans hrx, hidle, ?_, hlink, by simp [sameBut_iff]⟩
  rw [htimer, hrx]
  rfl

/-- Settles O45. -/
theorem lossEntryAndReturn : Obligations.LossEntryAndReturn := by
  unfold Obligations.LossEntryAndReturn
  intro s dt hlisten hasked
  obtain ⟨hloss, -, -, hsilent⟩ := elapse_port_timers s dt hlisten
  refine ⟨fun cause hrx hthird hsilence => ?_, fun hrx hidle => ?_⟩
  · obtain ⟨p, henters, hprx, hplink, hptimer⟩ := lossEntry_enters (u := s.elapse dt) (cause := cause)
      (by simpa using hrx) (by simpa using hthird) (fun hc => by rw [hsilent]; exact Nat.le_min.mpr ⟨hsilence hc, Nat.le_refl _⟩)
    have heff := (effect_lossEntry (dt := dt) hlisten cause).trans henters
    obtain ⟨hport, hall, hdrop, hquiet⟩ := enterLoss_spec ((s.elapse dt).setPort p)
    have hset : SameBut [.port] (s.elapse dt) ((s.elapse dt).setPort p) := by simp [sameBut_iff]
    have hboth := (hset.mono (ch' := [.port, .counters]) (by decide)).trans hall
    obtain ⟨hexec, hport', hcount, -, hends⟩ := line_answers heff hasked (hboth.bins (by decide))
    have hprx' : p.rx = s.port.rx := hprx.trans (by simp)
    have hplink' : p.link = s.port.link := hplink.trans (by simp)
    refine ⟨_, hexec, ?_⟩
    rw [hport', hport, hcount]
    refine ⟨rfl, rfl, rfl, fun hframe => ?_, fun hidle => ?_, fun hlink htimer => ?_, fun hlink => ?_, hends _ hboth⟩
    · have hmine := hdrop (hprx'.trans hframe)
      unfold DropCounted at hmine ⊢
      rw [hcount, hmine, setPort_port, hplink']
      rfl
    · exact hquiet (by rw [setPort_port, hprx', hidle]; decide)
    · rw [setPort_port, hptimer, hplink', hloss, htimer]
      exact if_pos ⟨rfl, hlink⟩
    · rw [setPort_port, hplink']
      refine if_neg ?_
      rintro ⟨-, hring⟩
      rcases hlink with hlink | hlink
      · simp [hlink] at hring
      · simp [hlink] at hring
  · obtain ⟨p, hprx, hpidle, hptimer, hplink, hreturns⟩ :=
      lossReturn_ends (u := s.elapse dt) (by simpa using hrx) (by simpa using hidle)
    have heff := (effect_lossReturn (dt := dt) hlisten).trans hreturns
    have hlink : (s.elapse dt).port.link = s.port.link := by simp
    rw [hlink] at hplink heff
    by_cases hsevered : s.port.link = .severed
    · rw [if_pos hsevered] at heff
      obtain ⟨hrx', hidle', htimer', hjoining, hsame⟩ := join_receiver (u := (s.elapse dt).setPort p) hprx
      have hboth : SameBut [.port, .ltu, .counters] (s.elapse dt) ((s.elapse dt).setPort p).join :=
        SameBut.trans (by simp [sameBut_iff]) hsame
      obtain ⟨hexec, hport', -, -, hends⟩ := line_answers heff hasked (hboth.bins (by decide))
      refine ⟨_, hexec, ?_⟩
      rw [hport']
      exact ⟨hrx', hidle'.trans hpidle, htimer', fun hnot => absurd hsevered hnot, fun _ => ⟨hjoining, hends _ hboth⟩⟩
    · rw [if_neg hsevered] at heff
      obtain ⟨t, hexec, hport, hsame⟩ := line_sets heff hasked
      refine ⟨t, hexec, ?_⟩
      rw [hport]
      exact ⟨hprx, hpidle, hptimer, fun _ => ⟨hplink, hsame⟩, fun h => absurd h hsevered⟩

end Sys2Proof.Machine

/-! The transmitter: its events, the cells on loop-out, and what goes out after a cut (R138, R139, R145, R146, R163). -/

namespace Sys2Proof.Machine

/-! ### The transmitter's timers (R145, R146) -/

/-- R163: the arbiter does not look at the recall timer. -/
theorem arbitrate_recallTimer (u : LoopTraffic) (x : Timer) : ({ u with recallTimer := x } : LoopTraffic).arbitrate =
    u.arbitrate.map (fun g => (g.1, { g.2 with recallTimer := x })) := by
  unfold LoopTraffic.arbitrate
  dsimp only
  split
  · rfl
  · rfl
  · rfl
  · split <;> rfl

/-- R145, R163: the gap has ended, and the arbiter is asked. -/
theorem transmitterFree_ends {u : State} (htx : u.port.tx = .gap) (hdue : Timer.due u.port.txTimer = true) :
    (u.ltu.arbitrate = none → u.transmitterFree = u.setPort { u.port with tx := .free, txTimer := none }) ∧
    ∀ f v, u.ltu.arbitrate = some (f, v) → u.transmitterFree = (u.setLtu v).setPort { u.port with
      tx := .sending f.lineBytes, txTimer := some ((f.lineBytes.length * 8 + 4) * 500) } := by
  have hasks : u.transmitterFree = (u.setPort { u.port with tx := .free, txTimer := none }).askArbiter := if_pos ⟨htx, hdue⟩
  refine ⟨fun hnone => hasks.trans (askArbiter_stands (.inr hnone)), fun f v hsome => ?_⟩
  rw [hasks, askArbiter_sends (s := u.setPort { u.port with tx := .free, txTimer := none }) rfl hsome]
  rfl

theorem transmitter_events (s : State) (dt : Nat) (hasked : s.bins.asked = false) (hlisten : s.listening = true)
    (htimer : RunsOut s.port.txTimer dt) :
    (s.port.tx = .gap →
      (s.ltu.arbitrate = none →
        ∃ t, exec (.transmitterFree dt) s = .next t ∧ t.port.tx = .free ∧ SameBut [.port] (s.elapse dt) t) ∧
      (∀ f u, s.ltu.arbitrate = some (f, u) →
        ∃ t, exec (.transmitterFree dt) s = .next t ∧ t.port.tx = .sending f.lineBytes ∧
          t.port.txTimer = some ((f.lineBytes.length * 8 + 4) * 500) ∧
          t.ltu.transitQueue = u.transitQueue ∧ t.ltu.ownQueue = u.ownQueue ∧ t.ltu.fairness = u.fairness ∧
          SameBut [.port, .ltu] (s.elapse dt) t)) ∧
    (∀ bytes, s.port.tx = .sending bytes →
      ∃ t, exec (.frameSent dt) s = .next t ∧ t.port.tx = .gap ∧ t.port.txTimer = some 8000 ∧
        SameBut [.port] (s.elapse dt) t) ∧
    (∀ cells, s.port.tx = .aborting cells →
      ∃ t, exec (.abortMarkSent dt) s = .next t ∧ t.port.tx = .silent ∧ t.port.relayDrive = false ∧
        SameBut [.port] (s.elapse dt) t) := by
  obtain ⟨-, -, htxTimer, -⟩ := elapse_port_timers s dt hlisten
  have hdue : Timer.due (s.elapse dt).port.txTimer = true := by
    rw [htxTimer]
    exact htimer.due
  have harb : (s.elapse dt).ltu.arbitrate = s.ltu.arbitrate.map
      (fun g => (g.1, { g.2 with recallTimer := Timer.elapse dt s.ltu.recallTimer })) := arbitrate_recallTimer _ _
  refine ⟨fun hgap => ?_, fun bytes hsending => ?_, fun cells haborting => ?_⟩
  · obtain ⟨hnone, hsome⟩ := transmitterFree_ends (u := s.elapse dt) (by simpa using hgap) hdue
    refine ⟨fun hempty => ?_, fun f u hgiven => ?_⟩
    · have heff : effect (.transmitterFree dt) (s.elapse dt) = _ := hnone (by rw [harb, hempty]; rfl)
      obtain ⟨t, hexec, hport, hsame⟩ := line_sets heff hasked
      exact ⟨t, hexec, by rw [hport], hsame⟩
    · have heff : effect (.transmitterFree dt) (s.elapse dt) = _ := hsome f _ (by rw [harb, hgiven]; rfl)
      obtain ⟨hexec, hport, -, hltu, hends⟩ := line_answers heff hasked (dt := dt) rfl
      refine ⟨_, hexec, ?_⟩
      rw [hport, hltu]
      exact ⟨rfl, rfl, rfl, rfl, rfl, hends _ (by simp [sameBut_iff])⟩
  · have heff : effect (.frameSent dt) (s.elapse dt) = (s.elapse dt).setPort (s.elapse dt).port.gap :=
      if_pos (by rw [Bool.and_eq_true]; exact ⟨by simp [hsending, TxState.isSending], hdue⟩)
    obtain ⟨t, hexec, hport, hsame⟩ := line_sets heff hasked
    exact ⟨t, hexec, by rw [hport]; rfl, by rw [hport]; rfl, hsame⟩
  · have heff : effect (.abortMarkSent dt) (s.elapse dt) =
        (s.elapse dt).setPort { (s.elapse dt).port with tx := .silent, txTimer := none, relayDrive := false } :=
      if_pos (by rw [Bool.and_eq_true]; exact ⟨by simp [haborting, TxState.isAborting], hdue⟩)
    obtain ⟨t, hexec, hport, hsame⟩ := line_sets heff hasked
    exact ⟨t, hexec, by rw [hport], by rw [hport], hsame⟩

/-! ### The cell going out (R145) -/

/-- R145: `gone` ns into a run of cells, the cell of that moment is going out. -/
theorem cellNow_eq {cells : List CellClass} {gone : Nat} (h : gone < cells.length * 500) :
    some (cellNow cells (cells.length * 500 - gone)) = cells[gone / 500]? := by
  have hlt : gone / 500 < cells.length := by omega
  have hdrop : cells.length - (cells.length * 500 - gone + (Config.cellNs - 1)) / Config.cellNs = gone / 500 := by
    simp only [Config.cellNs]
    omega
  rw [cellNow, hdrop, List.getElem?_eq_getElem hlt, List.drop_eq_getElem_cons hlt]
  rfl

theorem loopOut_spec (p : LoopPort) :
    (p.tx = .silent → p.loopOut = none) ∧ (p.tx = .gap ∨ p.tx = .free → p.loopOut = some .one) ∧
    (∀ bytes gone, p.tx = .sending bytes → gone < (bytes.length * 8 + 4) * 500 →
      p.txTimer = some ((bytes.length * 8 + 4) * 500 - gone) → p.loopOut = (frameCells bytes)[gone / 500]?) ∧
    (∀ cells gone, p.tx = .aborting cells → gone < cells.length * 500 → p.txTimer = some (cells.length * 500 - gone) →
      p.loopOut = cells[gone / 500]?) := by
  refine ⟨fun h => ?_, fun h => ?_, fun bytes gone h hgone htimer => ?_, fun cells gone h hgone htimer => ?_⟩
  · rw [LoopPort.loopOut, h]
  · rcases h with h | h <;> rw [LoopPort.loopOut, h]
  · have hlen := frameCells_length bytes
    rw [LoopPort.loopOut, h, htimer, ← cellNow_eq (by rwa [hlen]), hlen]
    rfl
  · rw [LoopPort.loopOut, h, htimer, ← cellNow_eq hgone]
    rfl

end Sys2Proof.Machine

/-! What goes out when a frame is cut (R146, log 19). -/

namespace Sys2Proof.Machine

/-! ### The cells of a frame (R138, R139, R145) -/

/-- R138: the data cells of a run of bytes. -/
def dataCells (bytes : List Byte) : List CellClass := bytes.flatMap byteCells

theorem frameCells_eq (bytes : List Byte) :
    frameCells bytes = .violation :: .zero :: (dataCells bytes ++ [.violation, .one]) := rfl

@[simp] theorem dataCells_length (bytes : List Byte) : (dataCells bytes).length = bytes.length * 8 :=
  flatMap_byteCells_length bytes

theorem dataCells_data (bytes : List Byte) : ∀ c ∈ dataCells bytes, c = .one ∨ c = .zero := by
  intro c hc
  obtain ⟨b, -, hcb⟩ := List.mem_flatMap.mp hc
  exact byteCells_data b c hcb

/-- R138: eight cells go by at a time. -/
theorem dataCells_split (bytes : List Byte) (j : Nat) :
    (dataCells bytes).take (8 * j) = dataCells (bytes.take j) ∧
    (dataCells bytes).drop (8 * j) = dataCells (bytes.drop j) := by
  induction bytes generalizing j with
  | nil => simp [dataCells]
  | cons b rest ih =>
    cases j with
    | zero => simp [dataCells]
    | succ j =>
      obtain ⟨htake, hdrop⟩ := ih j
      have hcons : dataCells (b :: rest) = byteCells b ++ dataCells rest := rfl
      have hlen := byteCells_length b
      rw [hcons, show 8 * (j + 1) = (byteCells b).length + 8 * j by rw [hlen]; omega, List.take_length_add_append,
        List.drop_length_add_append, htake, hdrop]
      exact ⟨rfl, rfl⟩

/-! ### The cells from the cut on (R146) -/

/-- R146: the cells kept of a frame that is cut in its data end with a whole byte. -/
theorem frameCells_take_byte {bytes : List Byte} {j : Nat} (h : j < bytes.length) :
    (frameCells bytes).take (2 + 8 * (j + 1)) = .violation :: .zero :: dataCells (bytes.take (j + 1)) := by
  have hwithin : 8 * (j + 1) ≤ (dataCells bytes).length := by
    rw [dataCells_length]
    omega
  rw [frameCells_eq, show 2 + 8 * (j + 1) = 8 * (j + 1) + 1 + 1 by omega, List.take_succ_cons, List.take_succ_cons,
    List.take_append_of_le_length hwithin, (dataCells_split bytes (j + 1)).1]

/-- R146: cut within the open mark: the mark is completed. -/
theorem cutCells_open (bytes : List Byte) {k : Nat} (h : k < 2) :
    cutCells bytes k = [CellClass.violation, .zero].drop k ++ [.violation, .violation] := by
  rw [cutCells, cellsKept, if_pos h, if_neg (by omega)]
  rfl

/-- R146: cut within the data: the byte begun is completed. -/
theorem cutCells_data {bytes : List Byte} {k : Nat} {b : Byte} (hk : 2 ≤ k) (hb : bytes[(k - 2) / 8]? = some b) :
    cutCells bytes k = (byteCells b).drop ((k - 2) % 8) ++ [.violation, .violation] := by
  obtain ⟨hj, hget⟩ := List.getElem?_eq_some_iff.mp hb
  generalize hjdef : (k - 2) / 8 = j at hj hget
  generalize hidef : (k - 2) % 8 = i
  have hsum : k = (8 * j + i) + 1 + 1 := by omega
  have hbyte : (bytes.take (j + 1)).drop j = [b] := by
    rw [List.take_succ_eq_append_getElem hj, hget, List.drop_append_of_le_length (by simp; omega)]
    simp
  rw [cutCells, cellsKept, if_neg (by omega), if_pos (by omega), if_neg (by omega), hjdef, frameCells_take_byte hj]
  congr 1
  rw [hsum, List.drop_succ_cons, List.drop_succ_cons, ← List.drop_drop, (dataCells_split _ j).2, hbyte]
  simp [dataCells]

/-- R146: cut within the close mark: the cell that is going out is completed, and counts toward the abort mark. -/
theorem cutCells_close (bytes : List Byte) :
    cutCells bytes (bytes.length * 8 + 2) = [.violation, .violation] ∧
    cutCells bytes (bytes.length * 8 + 3) = [.one, .violation, .violation] := by
  obtain ⟨pre, hpre⟩ : ∃ pre, pre = CellClass.violation :: .zero :: dataCells bytes := ⟨_, rfl⟩
  have hlen : pre.length = bytes.length * 8 + 2 := by simp [hpre]
  have hframe : frameCells bytes = pre ++ [.violation, .one] := by rw [hpre, frameCells_eq]; rfl
  have hkept : ∀ i, cellsKept bytes.length (pre.length + i) = pre.length + (i + 1) := by
    intro i
    rw [cellsKept, if_neg (by omega), if_neg (by omega)]
    rfl
  refine ⟨?_, ?_⟩
  · have hcut := hkept 0
    rw [Nat.add_zero] at hcut
    rw [← hlen, cutCells, hcut, hframe, List.take_length_add_append, List.drop_left, if_pos (by omega)]
    rfl
  · rw [show bytes.length * 8 + 3 = pre.length + 1 by omega, cutCells, hkept 1, hframe, List.take_length_add_append,
      List.drop_length_add_append, if_neg (by omega)]
    rfl

/-! ### The whole run of cells (R139, R146) -/

/-- R146: a frame that is cut has gone out as whole bytes, or up to the ONE of its close mark, with the abort mark after it. -/
theorem cut_stream {bytes : List Byte} {k : Nat} (h : k < bytes.length * 8 + 4) :
    ∃ data, (∀ c ∈ data, c = CellClass.one ∨ c = .zero) ∧
      ((frameCells bytes).take k ++ cutCells bytes k = .violation :: .zero :: (data ++ [.violation, .violation]) ∨
        (frameCells bytes).take k ++ cutCells bytes k =
          .violation :: .zero :: (data ++ [.violation, .one, .violation, .violation])) := by
  rcases Nat.lt_or_ge k 2 with hopen | hk
  · refine ⟨[], by simp, .inl ?_⟩
    rw [cutCells_open bytes hopen, frameCells_eq]
    interval_cases k <;> rfl
  rcases Nat.lt_or_ge ((k - 2) / 8) bytes.length with hdata | hclose
  · refine ⟨dataCells (bytes.take ((k - 2) / 8 + 1)), dataCells_data _, .inl ?_⟩
    rw [cutCells, cellsKept, if_neg (by omega), if_pos (by omega), if_neg (by omega), ← List.append_assoc]
    have hwhole : (frameCells bytes).take k ++ ((frameCells bytes).take (2 + 8 * ((k - 2) / 8 + 1))).drop k =
        (frameCells bytes).take (2 + 8 * ((k - 2) / 8 + 1)) := by
      have hle : k ≤ 2 + 8 * ((k - 2) / 8 + 1) := by omega
      have hsplit := List.take_append_drop k ((frameCells bytes).take (2 + 8 * ((k - 2) / 8 + 1)))
      rwa [List.take_take, Nat.min_eq_left hle] at hsplit
    rw [hwhole, frameCells_take_byte hdata]
    rfl
  · obtain ⟨hfirst, hlast⟩ := cutCells_close bytes
    have hlen := dataCells_length bytes
    have hframe : frameCells bytes = (CellClass.violation :: .zero :: dataCells bytes) ++ [.violation, .one] := by
      rw [frameCells_eq]
      rfl
    refine ⟨dataCells bytes, dataCells_data _, ?_⟩
    obtain rfl | rfl : k = bytes.length * 8 + 2 ∨ k = bytes.length * 8 + 3 := by omega
    · refine .inl ?_
      rw [hfirst, hframe, List.take_left' (by simp)]
      rfl
    · refine .inr ?_
      rw [hlast, hframe, show bytes.length * 8 + 3 = (CellClass.violation :: .zero :: dataCells bytes).length + 1 by simp,
        List.take_length_add_append]
      simp

/-! ### No three VIOLATIONs in a row (R139) -/

/-- R139, R140: nothing that a receiver would take for the entry to LOSS. -/
def NoTriple (l : List CellClass) : Prop := ¬ [CellClass.violation, .violation, .violation] <:+: l

theorem noTriple_iff (l : List CellClass) : NoTriple l ↔
    ∀ before after, l ≠ before ++ [CellClass.violation, .violation, .violation] ++ after := by
  simp only [NoTriple, List.IsInfix, not_exists]
  exact forall_congr' fun before => forall_congr' fun after => not_congr eq_comm

theorem NoTriple.cons {c : CellClass} {l : List CellClass} (h : NoTriple l) (hc : c ≠ .violation) : NoTriple (c :: l) := by
  rw [NoTriple, List.infix_cons_iff, not_or]
  refine ⟨fun hprefix => ?_, h⟩
  rw [List.cons_prefix_cons] at hprefix
  exact hc hprefix.1.symm

/-- One VIOLATION and another cell after it. -/
theorem NoTriple.pair {c : CellClass} {l : List CellClass} (h : NoTriple l) (hc : c ≠ .violation) :
    NoTriple (.violation :: c :: l) := by
  rw [NoTriple, List.infix_cons_iff, not_or]
  refine ⟨fun hprefix => ?_, h.cons hc⟩
  rw [List.cons_prefix_cons, List.cons_prefix_cons] at hprefix
  exact hc hprefix.2.1.symm

theorem NoTriple.data {data l : List CellClass} (h : NoTriple l) (hdata : ∀ c ∈ data, c = CellClass.one ∨ c = .zero) :
    NoTriple (data ++ l) := by
  induction data with
  | nil => exact h
  | cons c data ih =>
    have hc : c ≠ .violation := by
      rcases hdata c (List.mem_cons_self ..) with rfl | rfl <;> decide
    exact (ih fun x hx => hdata x (List.mem_cons_of_mem _ hx)).cons hc

/-- R139: the abort mark by itself. -/
theorem noTriple_abort : NoTriple [.violation, .violation] := by
  intro h
  simpa using h.length_le

/-- R138, R139, R146: no EMPTY cell, and no three VIOLATIONs in a row. -/
theorem cut_stream_clean {bytes : List Byte} {k : Nat} (h : k < bytes.length * 8 + 4) :
    CellClass.empty ∉ (frameCells bytes).take k ++ cutCells bytes k ∧
    NoTriple ((frameCells bytes).take k ++ cutCells bytes k) := by
  obtain ⟨data, hdata, hstream⟩ := cut_stream h
  have hempty : CellClass.empty ∉ data := by
    intro hin
    simpa using hdata _ hin
  rcases hstream with hstream | hstream
  · rw [hstream]
    exact ⟨by simp [hempty], (noTriple_abort.data hdata).pair (by decide)⟩
  · rw [hstream]
    exact ⟨by simp [hempty], ((noTriple_abort.pair (by decide)).data hdata).pair (by decide)⟩

/-- R146: the transmitter as the link goes to BYPASSED. -/
theorem leaveRing_spec (p : LoopPort) :
    (p.tx = .silent → p.leaveRing = { p with txTimer := none, relayDrive := false }) ∧
    (p.tx = .gap ∨ p.tx = .free → p.leaveRing = { p with tx := .silent, txTimer := none, relayDrive := false }) ∧
    (∀ cells, p.tx = .aborting cells → p.leaveRing = p) ∧
    ∀ bytes gone, p.tx = .sending bytes → gone < (bytes.length * 8 + 4) * 500 →
      p.txTimer = some ((bytes.length * 8 + 4) * 500 - gone) →
      p.leaveRing = { p with
        tx := .aborting (cutCells bytes (gone / 500))
        txTimer := some ((cutCells bytes (gone / 500)).length * 500 - gone % 500) } := by
  unfold LoopPort.leaveRing
  refine ⟨fun h => by rw [h], fun h => ?_, fun cells h => by rw [h], fun bytes gone h hgone htimer => ?_⟩
  · rcases h with h | h <;> rw [h]
  · have hleft : sendNs bytes.length - ((bytes.length * 8 + 4) * 500 - gone) = gone := by
      simp only [sendNs, Config.cellNs]
      omega
    rw [h, htimer]
    simp only [Option.getD_some, hleft]
    rfl

/-- Settles O46. -/
theorem transmitterCycle : Obligations.TransmitterCycle := by
  unfold Obligations.TransmitterCycle
  refine ⟨transmitter_events, ⟨cellOfTransitions_class, rfl, rfl, rfl, rfl⟩,
    fun bytes => ⟨rfl, frameCells_length bytes, fun b => ⟨byteCells_length b, byteCells_get b⟩⟩, loopOut_spec, fun p => ?_⟩
  obtain ⟨hsilent, hidle, haborting, hsending⟩ := leaveRing_spec p
  refine ⟨hsilent, hidle, haborting, ?_⟩
  intro bytes gone htx hgone htimer k
  have hk : k < bytes.length * 8 + 4 := by omega
  obtain ⟨hfirst, hlast⟩ := cutCells_close bytes
  obtain ⟨hempty, htriple⟩ := cut_stream_clean hk
  refine ⟨cutCells bytes k, hsending bytes gone htx hgone htimer, cutCells_open bytes, fun b hk2 hb => cutCells_data hk2 hb,
    fun h => ?_, fun h => ?_, hempty, (noTriple_iff _).mp htriple⟩
  · rw [h, hfirst]
  · rw [h, hlast]

end Sys2Proof.Machine

/-! The timers of the link and the rejoin (R148 to R151, R162, R164). -/

namespace Sys2Proof.Machine

/-! ### A frame of the station's own (R145, R162) -/

/-- R145, R162: what the own queue makes of a frame that replaces none. -/
theorem ownJoins_enqueueOwn {s u : State} {f : Frame} (hlink : u.port.link ≠ .bypassed) (hkind : f.kind ≠ 0x33)
    (hown : u.ltu.ownQueue = s.ltu.ownQueue) (htransit : u.ltu.transitQueue = s.ltu.transitQueue)
    (htx : u.port.tx = .free ↔ s.port.tx = .free) (hcount : u.counters = s.counters) : OwnJoins s (u.enqueueOwn f) f := by
  obtain ⟨hdrops, hjoins⟩ := enqueueOwn_joins hlink (.inl hkind)
  rw [hown] at hdrops hjoins
  refine ⟨fun hfull => ?_, fun hroom => ?_⟩
  · rw [hdrops hfull]
    exact ⟨hown, by rw [← hcount]; rfl⟩
  · rw [hjoins hroom]
    generalize hv : u.setLtu { u.ltu with ownQueue := s.ltu.ownQueue ++ [f] } = v
    have hport : v.port = u.port := by rw [← hv]; rfl
    have hvown : v.ltu.ownQueue = s.ltu.ownQueue ++ [f] := by rw [← hv]; rfl
    have hvtransit : v.ltu.transitQueue = s.ltu.transitQueue := by rw [← hv]; exact htransit
    have hvcount : v.counters = s.counters := by rw [← hv]; exact hcount
    refine ⟨?_, fun hbusy => ?_, fun hfree hnoTransit hnoOwn => ?_⟩
    · simp [hvcount]
    · rw [askArbiter_stands (.inl (by rw [hport]; exact fun h => hbusy (htx.mp h))), hvown]
    · rw [hnoOwn, List.nil_append] at hvown
      rw [askArbiter_sends (by rw [hport]; exact htx.mpr hfree) (arbitrate_of_nil_cons (hvtransit.trans hnoTransit) hvown)]
      exact ⟨rfl, rfl⟩

/-- The end of an event leaves what a frame of its own has done. -/
theorem OwnJoins.of_same {s t t' : State} {f : Frame} (h : OwnJoins s t f) (hport : t'.port = t.port) (hltu : t'.ltu = t.ltu)
    (hcount : t'.counters = t.counters) : OwnJoins s t' f := by
  unfold OwnJoins at h ⊢
  rwa [hport, hltu, hcount]

/-! ### A joining ROLL (R148, R164) -/

theorem rollFrame_elapse (s : State) (dt : Nat) (new : Bool) : (s.elapse dt).rollFrame new = s.rollFrame new := by
  simp only [State.rollFrame, State.buildFrame, State.ownRoll, elapse_ctl, elapse_frame]

/-- R148, R164: what a request for a joining ROLL changes. -/
theorem requestJoiningRoll_spec {s u : State} (hlink : u.port.link = .joining) (hroll : u.rollFrame true = s.rollFrame true)
    (hown : u.ltu.ownQueue = s.ltu.ownQueue) (htransit : u.ltu.transitQueue = s.ltu.transitQueue)
    (htx : u.port.tx = .free ↔ s.port.tx = .free) (hcount : u.counters = s.counters) :
    let t := u.requestJoiningRoll
    t.port.link = .joining ∧ t.ltu.joinRetry = min 5 (u.ltu.joinRetry + 1) ∧ t.port.joinTimer = some 200000000 ∧
    t.port.rx = u.port.rx ∧ OwnJoins s t (s.rollFrame true) ∧ SameBut [.port, .ltu, .counters] u t := by
  intro t
  have hjoins : OwnJoins s t (u.rollFrame true) :=
    ownJoins_enqueueOwn (u := (u.setLtu { u.ltu with joinRetry := min 5 (u.ltu.joinRetry + 1) }).setPort
      { u.port with joinTimer := Timer.start Config.joinMs }) (by simp [hlink]) (show Config.kindRoll ≠ 0x33 by decide) hown htransit htx hcount
  refine ⟨?_, ?_, ?_, ?_, by rwa [← hroll], ?_⟩
  · simp [t, State.requestJoiningRoll, hlink]
  · simp [t, State.requestJoiningRoll]
  · simp [t, State.requestJoiningRoll, Timer.start, Config.joinMs]
  · simp [t, State.requestJoiningRoll]
  · simp [t, State.requestJoiningRoll, sameBut_iff]

/-! ### SEVERED (R149, R150) -/

theorem sever_spec (u : State) (keep : Bool) : (u.sever keep).port.link = .severed ∧ (u.sever keep).port.joinTimer = none ∧
    (u.sever keep).port.lossTimer = none ∧ (u.sever keep).port.idleRun = (if keep then u.port.idleRun else 0) ∧
    SameBut [.port] u (u.sever keep) := by
  refine ⟨rfl, rfl, ?_, rfl, by simp [sameBut_iff, State.sever]⟩
  exact if_neg (by simp)

/-! ### The rejoin (R151) -/

/-- R148, R151: the link enters JOINING, and its first joining ROLL asks for the own queue. -/
theorem join_spec {s u : State} (hroll : u.rollFrame true = s.rollFrame true)
    (hown : u.ltu.ownQueue = s.ltu.ownQueue) (htransit : u.ltu.transitQueue = s.ltu.transitQueue)
    (htx : u.port.tx = s.port.tx) (hcount : u.counters = s.counters) :
    u.join.port.link = .joining ∧ u.join.ltu.joinRetry = 1 ∧ u.join.port.joinTimer = some 200000000 ∧
    u.join.port.rx = u.port.rx ∧ OwnJoins s u.join (s.rollFrame true) ∧
    SameBut [.port, .ltu, .counters] u u.join := by
  generalize hv : (((u.setPort { (if u.port.tx = .silent then u.port.gap else u.port) with relayDrive := true }).toLink
    .joining).setLtu { u.ltu with joinRetry := 0 }) = v
  have hjoin : u.join = v.requestJoiningRoll := by
    rw [← hv]
    rfl
  have hfacts : v.port.link = .joining ∧ v.rollFrame true = u.rollFrame true ∧ v.ltu.ownQueue = u.ltu.ownQueue ∧
      v.ltu.transitQueue = u.ltu.transitQueue ∧ v.counters = u.counters ∧ v.ltu.joinRetry = 0 ∧
      SameBut [.port, .ltu, .counters] u v := by
    subst hv
    exact ⟨rfl, rfl, rfl, rfl, rfl, rfl, by simp [sameBut_iff]⟩
  have hport : v.port.rx = u.port.rx ∧ (v.port.tx = .free ↔ u.port.tx = .free) := by
    subst hv
    simp only [setLtu_port, State.toLink, setPort_port]
    split
    · next hsilent => exact ⟨rfl, by simp [LoopPort.gap, hsilent]⟩
    · exact ⟨rfl, Iff.rfl⟩
  obtain ⟨hlink, hvroll, hvown, hvtransit, hvcount, hretry, hsame⟩ := hfacts
  obtain ⟨hrx, hvtx⟩ := hport
  obtain ⟨hjoining, hone, htimer, hrx', hjoins, hsame'⟩ := requestJoiningRoll_spec (s := s) hlink (hvroll.trans hroll)
    (hvown.trans hown) (hvtransit.trans htransit) (hvtx.trans (by rw [htx])) (hvcount.trans hcount)
  rw [hjoin]
  exact ⟨hjoining, by rw [hone, hretry]; rfl, htimer, hrx'.trans hrx, hjoins, hsame.trans hsame'⟩

/-- R151: the 32nd idle cell in SEVERED. -/
theorem severedRejoin_joins {u : State} (hlink : u.port.link = .severed) (hrx : u.port.rx ≠ .frame)
    (hidle : u.port.idleRun = 31) (hrun : u.port.violationRun = 0) :
    ∃ p : LoopPort, p.rx = .idle ∧ p.tx = u.port.tx ∧ u.severedRejoin = (u.setPort p).join := by
  refine ⟨{ u.port.note .one with idleRun := 32, rx := .idle, lossTimer := none }, rfl, rfl, ?_⟩
  have hone := plainCell_one (s := u.setPort (u.port.note .one)) hrx
  rw [State.severedRejoin, if_pos ⟨hlink, hrx, hidle⟩, receiveCell_plain _ hrun, hone, State.idleOne]
  exact (if_pos hidle).trans (if_pos hlink)

/-- Settles O47. -/
theorem linkTimersAndRejoin : Obligations.LinkTimersAndRejoin := by
  unfold Obligations.LinkTimersAndRejoin
  refine ⟨fun s new => rfl, fun s dt hasked hlisten => ?_⟩
  obtain ⟨hloss, hjoin, -, -⟩ := elapse_port_timers s dt hlisten
  have hroll := rollFrame_elapse s dt true
  have htx : (s.elapse dt).port.tx = s.port.tx := by simp
  refine ⟨fun hlink htimer => ⟨fun hfew => ?_, fun hmany => ?_⟩, fun withIdle htimer => ?_,
    fun hlink hrx hidle hrun => ?_⟩
  · have hjoining : (s.elapse dt).port.link = .joining := by simpa using hlink
    have heff : effect (.joiningRollRetry dt) (s.elapse dt) = (s.elapse dt).requestJoiningRoll :=
      if_pos ⟨hjoining, by rw [hjoin]; exact htimer.due, hfew⟩
    obtain ⟨hlink', hretry, htimer', -, hjoins, hsame⟩ :=
      requestJoiningRoll_spec (s := s) hjoining hroll rfl rfl (by rw [htx]) rfl
    obtain ⟨hexec, hport, hcount, hltu, hends⟩ := line_answers heff hasked (hsame.bins (by decide))
    refine ⟨_, hexec, ?_⟩
    have hmine := hjoins.of_same hport hltu hcount
    rw [hport, hltu]
    refine ⟨hlink', hretry.trans ?_, htimer', hmine, hends _ hsame⟩
    exact Nat.min_eq_right hfew
  · obtain ⟨hsevered, hnone, -, hidle, hsame⟩ := sever_spec (s.elapse dt) false
    have heff : effect (.joinTimeout dt) (s.elapse dt) = (s.elapse dt).sever false :=
      if_pos ⟨by simpa using hlink, by rw [hjoin]; exact htimer.due, hmany⟩
    obtain ⟨hexec, hport, -, -, hends⟩ := line_answers heff hasked (hsame.bins (by decide))
    refine ⟨_, hexec, ?_⟩
    rw [hport]
    exact ⟨hsevered, hnone, hidle, hends _ hsame⟩
  · obtain ⟨hsevered, hnone, hlost, hidle, hsame⟩ := sever_spec (s.elapse dt) (withIdle && (s.elapse dt).port.idleRun == 31)
    have heff : effect (.lossTimerExpiry dt withIdle) (s.elapse dt) =
        (s.elapse dt).sever (withIdle && (s.elapse dt).port.idleRun == 31) := if_pos (by rw [hloss]; exact htimer.due)
    obtain ⟨hexec, hport, -, -, hends⟩ := line_answers heff hasked (hsame.bins (by decide))
    refine ⟨_, hexec, ?_⟩
    rw [hport]
    refine ⟨hsevered, hnone, hlost, hidle.trans ?_, hends _ hsame⟩
    have hsameIdle : (s.elapse dt).port.idleRun = s.port.idleRun := by simp
    rw [hsameIdle]
    by_cases hkept : withIdle = true ∧ s.port.idleRun = 31
    · simp [hkept]
    · rw [if_neg hkept, if_neg (by simpa using hkept)]
  · obtain ⟨p, hprx, hptx, hrejoin⟩ := severedRejoin_joins (u := s.elapse dt) (by simpa using hlink) (by simpa using hrx)
      (by simpa using hidle) (by simpa using hrun)
    have heff : effect (.severedRejoin dt) (s.elapse dt) = ((s.elapse dt).setPort p).join := (if_pos hlisten).trans hrejoin
    obtain ⟨hlink', hretry, htimer', hrx', hjoins, hsame⟩ :=
      join_spec (s := s) (u := (s.elapse dt).setPort p) hroll rfl rfl (hptx.trans htx) rfl
    have hboth : SameBut [.port, .ltu, .counters] (s.elapse dt) ((s.elapse dt).setPort p).join :=
      SameBut.trans (by simp [sameBut_iff]) hsame
    obtain ⟨hexec, hport, hcount, hltu, hends⟩ := line_answers heff hasked (hboth.bins (by decide))
    refine ⟨_, hexec, ?_⟩
    have hmine := hjoins.of_same hport hltu hcount
    rw [hport, hltu]
    exact ⟨hlink', hrx'.trans hprx, hretry, htimer', hmine, hends _ hboth⟩

end Sys2Proof.Machine

/-! The peer table (R155, R165, R168). -/

namespace Sys2Proof.Machine

/-! ### The entry of an address -/

/-- The entry of an address in a list of peers. -/
def peerOf (l : List PeerEntry) (a : Nat) : Option PeerEntry := l.find? (fun p => p.address == a)

theorem peer_eq (s : State) (a : Nat) : s.peer a = peerOf s.ltu.peers a := rfl

theorem peerOf_cons (p : PeerEntry) (l : List PeerEntry) (a : Nat) :
    peerOf (p :: l) a = if p.address = a then some p else peerOf l a := by
  by_cases h : p.address = a
  · rw [peerOf, List.find?_cons_of_pos (by simpa using h), if_pos h]
  · rw [peerOf, List.find?_cons_of_neg (by simpa using h), if_neg h, peerOf]

theorem peerOf_address {l : List PeerEntry} {a : Nat} {p : PeerEntry} (h : peerOf l a = some p) : p.address = a := by
  simpa using List.find?_some h

theorem peerOf_none {l : List PeerEntry} {a : Nat} : peerOf l a = none ↔ ∀ p ∈ l, p.address ≠ a := by
  simp [peerOf]

/-- A change that keeps each address changes the entry that is found. -/
theorem peerOf_map (l : List PeerEntry) (f : PeerEntry → PeerEntry) (a : Nat) (hf : ∀ p, (f p).address = p.address) :
    peerOf (l.map f) a = (peerOf l a).map f := by
  induction l with
  | nil => rfl
  | cons p l ih =>
    rw [List.map_cons, peerOf_cons, peerOf_cons, hf, ih]
    split <;> rfl

/-- R168: an address that is taken out has no entry, and every other keeps its own. -/
theorem peerOf_filter (l : List PeerEntry) (a b : Nat) :
    peerOf (l.filter (fun p => p.address != a)) b = if b = a then none else peerOf l b := by
  induction l with
  | nil => simp [peerOf]
  | cons p l ih =>
    by_cases hp : p.address = a
    · rw [List.filter_cons_of_neg (by simp [hp]), ih, peerOf_cons, hp]
      by_cases hb : b = a
      · simp [hb]
      · simp [hb, Ne.symm hb]
    · rw [List.filter_cons_of_pos (by simp [hp]), peerOf_cons, peerOf_cons, ih]
      by_cases hpb : p.address = b
      · have hb : b ≠ a := fun h => hp (hpb.trans h)
        simp [hpb, hb]
      · simp [hpb]

/-- R165, R166: the entry that takes its place in a table without its address. -/
theorem peerOf_insertPeer (x : PeerEntry) (l : List PeerEntry) (a : Nat) (h : ∀ p ∈ l, p.address ≠ x.address) :
    peerOf (insertPeer x l) a = if a = x.address then some x else peerOf l a := by
  induction l with
  | nil =>
    rw [insertPeer, peerOf_cons]
    simp [eq_comm]
  | cons y l ih =>
    have hy := h y (List.mem_cons_self ..)
    rw [insertPeer]
    split
    · rw [peerOf_cons]
      simp [eq_comm]
    · rw [peerOf_cons, peerOf_cons, ih fun p hp => h p (List.mem_cons_of_mem _ hp)]
      by_cases hya : y.address = a
      · have ha : a ≠ x.address := fun h => hy (hya.trans h)
        simp [hya, ha]
      · simp [hya]

/-! ### A peer removed (R168, R116) -/

theorem removePeer_stands {s : State} {a : Nat} (h : a = s.ctl.address ∨ s.peer a = none) : s.removePeer a = s := by
  refine if_pos ?_
  rcases h with h | h
  · exact .inl h
  · exact .inr (by rw [h]; rfl)

theorem removePeer_spec {s : State} {a : Nat} (hown : a ≠ s.ctl.address) (hpeer : s.peer a ≠ none) :
    (s.removePeer a).ltu = { s.ltu with peers := s.ltu.peers.filter (fun p => p.address != a) } ∧
    (s.removePeer a).bins = { s.bins with board := s.bins.board.filter (fun e => e.peer != a) } ∧
    SameBut [.ltu, .bins] s (s.removePeer a) ∧ (s.removePeer a).peer a = none := by
  have hremoved : s.removePeer a = (s.setPeers (s.ltu.peers.filter (fun p => p.address != a))).forgetBoard a := by
    refine if_neg ?_
    rintro (h | h)
    · exact hown h
    · exact hpeer (Option.isNone_iff_eq_none.mp h)
  have hgone := peerOf_filter s.ltu.peers a a
  rw [if_pos rfl] at hgone
  rw [hremoved]
  exact ⟨rfl, rfl, by simp [sameBut_iff], hgone⟩

end Sys2Proof.Machine

/-! The foreign attention pulse and the timers of the loop traffic (R91, R168, R170, R188). -/

namespace Sys2Proof.Machine

/-- R168: a peer that has been silent for 3000 ms goes. -/
theorem peerSilence_removes {u : State} {a : Nat} {p : PeerEntry} (hlink : u.port.link ≠ .bypassed)
    (hpeer : u.peer a = some p) (hsilent : 3000 ≤ u.since p.lastHeard) : u.peerSilence a = u.removePeer a := by
  refine if_pos ⟨hlink, ?_⟩
  rw [State.silentFor, hpeer]
  exact decide_eq_true hsilent

/-- R188: the period restarts, and a STATUS asks for the own queue. -/
theorem statusPeriod_spec {s u : State} (hrun : u.running = true) (hdue : Timer.due u.ctl.statusTimer = true)
    (hown : u.ltu.ownQueue = s.ltu.ownQueue) (htransit : u.ltu.transitQueue = s.ltu.transitQueue)
    (htx : u.port.tx = s.port.tx) (hcount : u.counters = s.counters) :
    u.statusPeriod.ctl = { u.ctl with statusTimer := some 5000000000 } ∧
    (u.port.link ≠ .bypassed → OwnJoins s u.statusPeriod u.statusFrame) ∧
    SameBut [.mode, .port, .ltu, .counters] u u.statusPeriod := by
  have hperiod : u.statusPeriod =
      (u.setCtl { u.ctl with statusTimer := Timer.start Config.statusMs }).enqueueOwn u.statusFrame :=
    if_pos (by rw [hrun, hdue]; rfl)
  rw [hperiod]
  refine ⟨?_, fun hlink => ?_, by simp [sameBut_iff]⟩
  · simp [Timer.start, Config.statusMs]
  · exact ownJoins_enqueueOwn (u := u.setCtl { u.ctl with statusTimer := Timer.start Config.statusMs }) hlink
      (show Config.kindStatus ≠ 0x33 by decide) hown htransit (by rw [← htx]; rfl) hcount

/-- Settles O51. -/
theorem pulseAndTrafficTimers : Obligations.PulseAndTrafficTimers := by
  unfold Obligations.PulseAndTrafficTimers
  intro s dt hasked
  have hlink : (s.elapse dt).port.link = s.port.link := by simp
  have htx : (s.elapse dt).port.tx = s.port.tx := by simp
  refine ⟨fun htimer => ?_, fun htimer => ?_, fun a p hring hown hpeer hsilent => ?_, fun hrun htimer => ?_⟩
  · have heff : effect (.foreignAttentionPulseEnd dt) (s.elapse dt) =
        (s.elapse dt).setTrk { (s.elapse dt).trk with foreignPulse := none } := if_pos htimer.due
    obtain ⟨hexec, -, -, -, hends⟩ := line_answers heff hasked (dt := dt) rfl
    refine ⟨_, hexec, ?_, hends _ (by simp [sameBut_iff])⟩
    simp only [finish_frame]
    rfl
  · have heff : effect (.recallTimerExpiry dt) (s.elapse dt) =
        (s.elapse dt).setLtu { (s.elapse dt).ltu with recallTimer := none } := if_pos htimer.due
    obtain ⟨hexec, -, -, hltu, hends⟩ := line_answers heff hasked (dt := dt) rfl
    refine ⟨_, hexec, ?_, hends _ (by simp [sameBut_iff])⟩
    rw [hltu]
    rfl
  · have hremoves := peerSilence_removes (u := s.elapse dt) (by rwa [hlink]) hpeer hsilent
    have heff : effect (.peerSilenceTimeout dt a) (s.elapse dt) = (s.elapse dt).removePeer a := hremoves
    have haddress : (s.elapse dt).ctl.address = s.ctl.address := by simp
    obtain ⟨hltu, hbins, hsame, hgone⟩ := removePeer_spec (s := s.elapse dt) (a := a) (by rwa [haddress])
      (by rw [elapse_peer, hpeer]; simp)
    have hquiet : ((s.elapse dt).removePeer a).bins.asked = false := by
      rw [hbins]
      exact elapse_asked_of dt hasked
    obtain ⟨hbins', -, hltu', -⟩ := finish_unasked hquiet
    refine ⟨_, exec_answers heff, ?_, ?_, ?_, ?_, hsame.finish_quiet hquiet⟩
    · rw [peer_eq, hltu', ← peer_eq, hgone]
    · rw [hltu', hltu]
      rfl
    · rw [hbins', hbins]
      rfl
    · rw [hbins', hbins]
      rfl
  · have hdue : Timer.due (s.elapse dt).ctl.statusTimer = true := by
      exact htimer.due
    obtain ⟨hctl, hjoins, hsame⟩ := statusPeriod_spec (s := s) (u := s.elapse dt) hrun hdue rfl rfl htx rfl
    have heff : effect (.statusPeriodTimer dt) (s.elapse dt) = (s.elapse dt).statusPeriod := rfl
    obtain ⟨hexec, hport, hcount, hltu, hends⟩ := line_answers heff hasked (hsame.bins (by decide))
    refine ⟨_, hexec, ?_, ?_, fun hring => ?_, hends _ hsame⟩
    · simp only [finish_ctl, hctl]
    · rw [ControllerIs, finish_noLamp, hctl]
    · exact (hjoins (by rwa [hlink])).of_same hport hltu hcount

end Sys2Proof.Machine

/-! What a heard frame comes to, one by one: the origin, the dispatch, a returned ticket (R155, R156, R158 to R161). -/

namespace Sys2Proof.Machine

/-! ### The origin (R155) -/

theorem hear_spec (s : State) (origin a : Nat) : SameBut [.ltu] s (s.hear origin) ∧
    (s.hear origin).ltu = { s.ltu with peers := (s.hear origin).ltu.peers } ∧
    (s.hear origin).peer a =
      (s.peer a).map (fun p => if a = origin then { p with lastHeard := s.ctl.clock } else p) := by
  refine ⟨hear_same s origin, rfl, ?_⟩
  have hmap : (s.hear origin).peer a =
      (s.peer a).map (fun p => if p.address = origin then { p with lastHeard := s.ctl.clock } else p) := by
    refine peerOf_map s.ltu.peers _ a fun p => ?_
    split <;> rfl
  rw [hmap]
  refine Option.map_congr fun p hp => ?_
  rw [peerOf_address (l := s.ltu.peers) hp]

/-! ### The dispatch (R156, R160, R161) -/

theorem dispatch_own {s : State} {f : Frame} (h : f.origin = s.ctl.address) :
    (f.kind = 0x22 → s.dispatch f = s.undelivered f) ∧ (f.kind ≠ 0x11 → f.kind ≠ 0x22 → s.dispatch f = s) := by
  have hstrip : s.dispatch f = s.strip f := if_pos h
  rw [hstrip]
  unfold State.strip
  refine ⟨fun hticket => ?_, fun hroll hticket => ?_⟩
  · rw [if_neg (by rw [hticket]; decide)]
    exact if_pos hticket
  · exact (if_neg hroll).trans (if_neg hticket)

theorem dispatch_mine {s : State} {f : Frame} (h : f.origin ≠ s.ctl.address) (hdest : f.dest = s.ctl.address) :
    (f.kind = 0x22 → s.dispatch f = s.ticketArrival f.origin f.payload) ∧
    (f.kind ≠ 0x22 → s.dispatch f = s.count .lineDrops) := by
  have hmine : s.dispatch f = s.consumeOwn f := by rw [State.dispatch, if_neg h, if_pos hdest]
  rw [hmine]
  exact ⟨fun hticket => if_pos hticket, fun hother => if_neg hother⟩

theorem dispatch_others {s : State} {f : Frame} (h : f.origin ≠ s.ctl.address) (hdest : f.dest ≠ s.ctl.address) :
    (f.dest = 0 → s.dispatch f = (s.consumeAll f).repeatFrame f) ∧ (f.dest ≠ 0 → s.dispatch f = s.repeatFrame f) := by
  rw [State.dispatch, if_neg h, if_neg hdest]
  exact ⟨fun hall => if_pos hall, fun hone => if_neg hone⟩

theorem repeatFrame_cases (s : State) (f : Frame) :
    (f.hop < 2 ∨ 6 ≤ s.ltu.transitQueue.length → s.repeatFrame f = s.count .queueDrops) ∧
    (2 ≤ f.hop → s.ltu.transitQueue.length < 6 → s.repeatFrame f = (s.setLtu { s.ltu with
      transitQueue := s.ltu.transitQueue ++ [{ f with hop := f.hop - 1 }] }).askArbiter) := by
  refine ⟨fun h => if_pos h, fun hhop hroom => if_neg ?_⟩
  rintro (h | h)
  · omega
  · exact absurd h (Nat.not_le.mpr hroom)

/-! ### A ticket that comes home (R158, R159) -/

theorem undelivered_cases (s : State) (f : Frame) :
    let s1 := s.removePeer f.dest
    (∀ p, readdressed f.payload = false → s1.nextPeer = some p →
      s.undelivered f = s1.enqueueOwn ⟨0x22, p.address, s.ctl.address, 32, setReaddressed f.payload⟩) ∧
    (readdressed f.payload = true ∨ s1.nextPeer = none → s.undelivered f = s1.count .queueDrops) := by
  intro s1
  refine ⟨fun p hfirst hnext => ?_, fun h => ?_⟩
  · have haddress : s1.ctl.address = s.ctl.address := by simp [s1]
    rw [State.undelivered, hfirst]
    simp only [show (s.removePeer f.dest).nextPeer = some p from hnext, State.buildFrame]
    rw [show (s.removePeer f.dest).ctl.address = s.ctl.address from haddress]
    rfl
  · unfold State.undelivered
    dsimp only
    rcases h with h | h
    · rw [h]
    · rw [show (s.removePeer f.dest).nextPeer = none from h]
      cases readdressed f.payload <;> rfl

/-- A byte of a list in which the one at `i` is replaced. -/
theorem byteAt_set {bs : List Byte} {i : Nat} (v : Byte) (h : i < bs.length) (j : Nat) :
    byteAt (bs.set i v) j = if j = i then v.toNat else byteAt bs j := by
  by_cases hj : j = i
  · subst hj
    simp [byteAt, List.getD, h]
  · simp [byteAt, List.getD, hj, Ne.symm hj]

/-- R159: the readdressed bit, and the other fields of its byte. -/
theorem readdressed_bit (x : Byte) : ((x ||| 0x80#8).toNat).testBit 7 = true ∧
    ((x ||| 0x80#8).toNat).testBit 6 = x.toNat.testBit 6 ∧ bitField (x ||| 0x80#8).toNat 0 4 = bitField x.toNat 0 4 ∧
    bitField (x ||| 0x80#8).toNat 4 2 = bitField x.toNat 4 2 := by
  revert x
  decide

/-- R159: the payload as it came back, but for the readdressed bit. -/
theorem setReaddressed_spec {payload : List Byte} (h : 14 ≤ payload.length) :
    (setReaddressed payload).length = payload.length ∧ readdressed (setReaddressed payload) = true ∧
    decodeTicket (setReaddressed payload) = decodeTicket payload ∧
    ∀ i, i ≠ 12 → (setReaddressed payload)[i]? = payload[i]? := by
  have hlen : (setReaddressed payload).length = payload.length := by simp [setReaddressed]
  have hbyte : ∀ j, byteAt (setReaddressed payload) j =
      if j = 12 then (payload.getD 12 0 ||| 0x80#8).toNat else byteAt payload j :=
    byteAt_set _ (by omega)
  obtain ⟨hseven, hsix, hlow, hhigh⟩ := readdressed_bit (payload.getD 12 0)
  have hother : ∀ j, j ≠ 12 → byteAt (setReaddressed payload) j = byteAt payload j := fun j hj => by rw [hbyte, if_neg hj]
  have hid : ∀ j, 12 < j ∨ j < 10 → idAt (setReaddressed payload) j = idAt payload j := by
    intro j hj
    rw [idAt, idAt, wordAt, wordAt, hother j (by omega), hother (j + 1) (by omega), hother (j + 1 + 1) (by omega)]
  have hword : ∀ j, 12 < j ∨ j < 11 → wordAt (setReaddressed payload) j = wordAt payload j := fun j hj => by
    rw [wordAt, wordAt, hother j (by omega), hother (j + 1) (by omega)]
  refine ⟨hlen, ?_, ?_, fun i hi => List.getElem?_set_ne (Ne.symm hi)⟩
  · rw [readdressed, hbyte]
    exact hseven
  · simp only [decodeTicket, hlen, hid 0 (by omega)]
    rw [hword 3, hword 5, hword 10, hother 7, hother 8, hother 9, hother 13, hbyte 12, if_pos rfl, hsix, hlow, hhigh]
    · have hmerged : (fun k => idAt (setReaddressed payload) (14 + 3 * k)) = fun k => idAt payload (14 + 3 * k) :=
        funext fun k => hid _ (by omega)
      rw [hmerged]
      rfl
    all_goals decide

/-! ### The checks, and the next peer (R115, R165, R169) -/

theorem takeable_iff (r : RollContent) : r.takeable = true ↔ r.family = 0x31 ∧ r.model = 0x16 ∧ r.gateDist ≤ 1023 ∧
    r.binCount ≤ 4 ∧ 1 ≤ r.exitX ∧ r.exitX ≤ 1024 := by
  simp [RollContent.takeable, Config.familyCode, Config.modelCode, and_assoc]

theorem reportOk_iff (r : BinReport) : r.ok = true ↔ (1 ≤ r.bin ∧ r.bin ≤ 4) ∧ (1 ≤ r.cls ∧ r.cls ≤ 12) ∧
    (1 ≤ r.capacity ∧ r.capacity ≤ 1000) ∧ r.fill ≤ r.capacity ∧ r.pending ≤ 8 ∧ r.state ≠ none := by
  simp [BinReport.ok, and_assoc, Option.isSome_iff_ne_none]

theorem binstateOk_iff (payload : List Byte) : binstateOk payload = true ↔ (decodeHeader payload).mode ≠ none ∧
    (∀ r ∈ decodeReports payload, (1 ≤ r.bin ∧ r.bin ≤ 4) ∧ (1 ≤ r.cls ∧ r.cls ≤ 12) ∧
      (1 ≤ r.capacity ∧ r.capacity ≤ 1000) ∧ r.fill ≤ r.capacity ∧ r.pending ≤ 8 ∧ r.state ≠ none) ∧
    ((decodeReports payload).map (fun r => r.bin)).Nodup := by
  simp only [binstateOk, Bool.and_eq_true, List.all_eq_true, reportOk_iff, noRepeats_iff, Option.isSome_iff_ne_none, and_assoc]

/-- R169: the first entry after the own one whose tracking flag is set. -/
theorem nextPeer_spec {s : State} {before after : List PeerEntry} {own : PeerEntry} (hl : s.ltu.peers = before ++ own :: after)
    (hown : own.address = s.ctl.address) (hbefore : ∀ x ∈ before, x.address ≠ s.ctl.address) :
    ((∀ x ∈ after, x.tracking = false) → s.nextPeer = none) ∧
    ∀ x p y, after = x ++ p :: y → (∀ q ∈ x, q.tracking = false) → p.tracking = true → s.nextPeer = some p := by
  rw [nextPeer_of_own s before after own hl hown hbefore]
  refine ⟨fun hnone => ?_, fun x p y hafter hx hp => ?_⟩
  · rw [List.find?_eq_none]
    intro x hx
    simp [hnone x hx]
  · have hskip : x.find? (fun p => p.tracking) = none := by
      rw [List.find?_eq_none]
      intro q hq
      simp [hx q hq]
    rw [hafter, List.find?_append, hskip, List.find?_cons_of_pos hp]
    rfl

end Sys2Proof.Machine

/-! What a frame to all makes of the peer table and the Fill Board, and the ROLL that answers or recalls (R115, R164 to R167,
R170). -/

namespace Sys2Proof.Machine

/-! ### The order of the peer table (R166) -/

theorem before_iff (p q : PeerEntry) : p.before q = true ↔ PeerLt p q := by simp [PeerEntry.before, PeerLt]

theorem PeerLt.trans {p q r : PeerEntry} (h : PeerLt p q) (h' : PeerLt q r) : PeerLt p r := by
  unfold PeerLt at h h' ⊢
  omega

theorem peerLt_of_not {p q : PeerEntry} (h : ¬ PeerLt p q) (hne : q.address ≠ p.address) : PeerLt q p := by
  unfold PeerLt at h ⊢
  omega

/-- R166: the place of an entry in a table that does not hold its address. -/
theorem insertPeer_splits (x : PeerEntry) (l : List PeerEntry) : ∃ before after, l = before ++ after ∧
    insertPeer x l = before ++ x :: after ∧ (∀ q ∈ before, ¬ PeerLt x q) ∧
    ∀ q, after.head? = some q → PeerLt x q := by
  obtain ⟨before, after, hl, hins, hbefore, hafter⟩ := insertPeer_place x l
  refine ⟨before, after, hl, hins, fun q hq => ?_, fun q hq => (before_iff x q).mp (hafter q hq)⟩
  rw [← before_iff, hbefore q hq]
  simp

/-- R166: a table in order stays in order. -/
theorem insertPeer_pairwise {x : PeerEntry} {l : List PeerEntry} (h : l.Pairwise PeerLt)
    (hne : ∀ q ∈ l, q.address ≠ x.address) : (insertPeer x l).Pairwise PeerLt := by
  obtain ⟨before, after, hl, hins, hbefore, hafter⟩ := insertPeer_splits x l
  rw [hl, List.pairwise_append] at h
  obtain ⟨hpb, hpa, hcross⟩ := h
  have hlt : ∀ q ∈ before, PeerLt q x := fun q hq => peerLt_of_not (hbefore q hq) (hne q (by simp [hl, hq]))
  have hgt : ∀ q ∈ after, PeerLt x q := by
    cases after with
    | nil => simp
    | cons y after =>
      have hy := hafter y rfl
      rw [List.pairwise_cons] at hpa
      intro q hq
      rcases List.mem_cons.mp hq with rfl | hq
      · exact hy
      · exact hy.trans (hpa.1 q hq)
  rw [hins, List.pairwise_append, List.pairwise_cons]
  refine ⟨hpb, ⟨hgt, hpa⟩, fun p hp q hq => ?_⟩
  rcases List.mem_cons.mp hq with rfl | hq
  · exact hlt p hp
  · exact hcross p hp q hq

/-! ### A ROLL to all (R164, R165) -/

/-- R165: the table with the entry of the ROLL's origin in its place. -/
def State.takePeer (s : State) (origin : Nat) (r : RollContent) : State :=
  s.setPeers (insertPeer (s.rollEntry origin r) (s.ltu.peers.filter (fun p => p.address != origin)))

theorem consumeAll_roll {s : State} {f : Frame} (h : f.kind = 0x11) :
    ((decodeRoll f.payload).takeable = false → s.consumeAll f = s.count .lineDrops) ∧
    ((decodeRoll f.payload).takeable = true → s.consumeAll f =
      if (decodeRoll f.payload).newFlag then (s.takePeer f.origin (decodeRoll f.payload)).answerRoll
      else s.takePeer f.origin (decodeRoll f.payload)) := by
  have htakes : s.consumeAll f = s.takeRoll f.origin f.payload := if_pos h
  rw [htakes, State.takeRoll]
  exact ⟨fun hbad => if_neg (by simp [hbad]), fun hgood => if_pos hgood⟩

theorem takePeer_absent (s : State) (origin : Nat) :
    ∀ q ∈ s.ltu.peers.filter (fun p => p.address != origin), q.address ≠ origin := by
  intro q hq
  simpa using (List.mem_filter.mp hq).2

/-- R165, R166: the entry that a ROLL makes, and its place. -/
theorem takePeer_spec (s : State) (origin : Nat) (r : RollContent) :
    let t := s.takePeer origin r
    t.peer origin = some (s.rollEntry origin r) ∧
    (∃ before p after, t.ltu.peers = before ++ p :: after ∧ p.address = origin ∧
      s.ltu.peers.filter (fun q => decide (q.address ≠ origin)) = before ++ after ∧
      (∀ q ∈ before, ¬ PeerLt p q) ∧ ∀ q, after.head? = some q → PeerLt p q) ∧
    (s.ltu.peers.Pairwise PeerLt → t.ltu.peers.Pairwise PeerLt) ∧
    (∀ a, a ≠ origin → t.peer a = s.peer a) := by
  intro t
  have habsent := takePeer_absent s origin
  have hpeer : ∀ a, t.peer a = if a = origin then some (s.rollEntry origin r)
      else peerOf (s.ltu.peers.filter (fun p => p.address != origin)) a :=
    fun a => peerOf_insertPeer (s.rollEntry origin r) _ a habsent
  have hfilter : s.ltu.peers.filter (fun q => decide (q.address ≠ origin)) =
      s.ltu.peers.filter (fun p => p.address != origin) :=
    List.filter_congr fun q _ => by rw [Bool.eq_iff_iff, bne_iff_ne, decide_eq_true_iff]
  refine ⟨by rw [hpeer, if_pos rfl], ?_, fun hsorted => ?_, fun a ha => ?_⟩
  · obtain ⟨before, after, hl, hins, hbefore, hafter⟩ :=
      insertPeer_splits (s.rollEntry origin r) (s.ltu.peers.filter (fun p => p.address != origin))
    exact ⟨before, _, after, hins, rfl, hfilter.trans hl, hbefore, hafter⟩
  · exact insertPeer_pairwise (hsorted.filter _) habsent
  · rw [hpeer, if_neg ha, peerOf_filter, if_neg ha]
    rfl

/-- R164: what answers a ROLL of a new station. -/
theorem answerRoll_spec {s u : State} (hown : u.ltu.ownQueue = s.ltu.ownQueue)
    (htransit : u.ltu.transitQueue = s.ltu.transitQueue) (hport : u.port = s.port) (hcount : u.counters = s.counters)
    (hroll : u.rollFrame false = s.rollFrame false) :
    u.answerRoll.ltu.peers = u.ltu.peers ∧ u.answerRoll.bins = u.bins ∧
    (s.port.link = .joining ∨ s.port.link = .joined → (∀ g ∈ s.ltu.ownQueue, g.kind ≠ 0x11) →
      OwnJoins s u.answerRoll (s.rollFrame false)) ∧
    ((∃ g ∈ s.ltu.ownQueue, g.kind = 0x11) ∨ s.port.link = .severed ∨ s.port.link = .bypassed →
      u.answerRoll = u) := by
  have hholds : u.ltu.holds Config.kindRoll = true ↔ ∃ g ∈ s.ltu.ownQueue, g.kind = 0x11 := by
    rw [holds_iff, hown]
    rfl
  refine ⟨?_, by simp, fun hlink hnone => ?_, fun hforbids => if_neg ?_⟩
  · unfold State.answerRoll
    split <;> simp
  · have hfree : u.ltu.holds Config.kindRoll = false := by
      rw [← Bool.not_eq_true, hholds]
      rintro ⟨g, hg, hkind⟩
      exact hnone g hg hkind
    have hanswers : u.answerRoll = u.enqueueOwn (u.rollFrame false) := if_pos ⟨by rwa [hport], hfree⟩
    rw [hanswers, hroll]
    refine ownJoins_enqueueOwn ?_ (show Config.kindRoll ≠ 0x33 by decide) hown htransit (by rw [hport]) hcount
    rw [hport]
    rcases hlink with hlink | hlink <;> simp [hlink]
  · rintro ⟨hlink, hfree⟩
    rw [hport] at hlink
    rcases hforbids with hwaits | hlink' | hlink'
    · rw [hholds.mpr hwaits] at hfree
      simp at hfree
    · simp [hlink'] at hlink
    · simp [hlink'] at hlink

end Sys2Proof.Machine

/-! Frames to all, continued: BINSTATE, STATUS and the recall; and the whole settled (R115, R155 to R161, R164 to R170). -/

namespace Sys2Proof.Machine

/-- R165: the entry that a ROLL makes. -/
theorem rollEntry_spec (s : State) (origin : Nat) (r : RollContent) :
    (s.rollEntry origin r).gateDist = r.gateDist ∧ (s.rollEntry origin r).digest = r.digest ∧
    ((s.rollEntry origin r).digestEqual = true ↔ s.classifier.digest = some r.digest) ∧
    (s.rollEntry origin r).lastHeard = s.ctl.clock ∧ (s.peer origin = none → (s.rollEntry origin r).tracking = false) ∧
    ∀ old, s.peer origin = some old → (s.rollEntry origin r).tracking = old.tracking := by
  refine ⟨rfl, rfl, ?_, rfl, fun h => ?_, fun old h => ?_⟩
  · rw [State.rollEntry, beq_iff_eq, eq_comm]
  · rw [State.rollEntry, h]
    rfl
  · rw [State.rollEntry, h]
    rfl

/-- R164 to R166: what a ROLL to all makes of the peer table, and its answer. -/
theorem rollToAll (s : State) (f : Frame) (hkind : f.kind = 0x11) :
    let r := decodeRoll f.payload
    (r.takeable = false → s.consumeAll f = s.count .lineDrops) ∧
    (r.takeable = true →
      (∃ p, (s.consumeAll f).peer f.origin = some p ∧ p.gateDist = r.gateDist ∧ p.digest = r.digest ∧
        (p.digestEqual = true ↔ s.classifier.digest = some r.digest) ∧
        p.lastHeard = s.ctl.clock ∧ (s.peer f.origin = none → p.tracking = false) ∧
        (∀ old, s.peer f.origin = some old → p.tracking = old.tracking)) ∧
      (∃ before p after, (s.consumeAll f).ltu.peers = before ++ p :: after ∧ p.address = f.origin ∧
        s.ltu.peers.filter (fun q => decide (q.address ≠ f.origin)) = before ++ after ∧
        (∀ q ∈ before, ¬ PeerLt p q) ∧ ∀ q, after.head? = some q → PeerLt p q) ∧
      (s.ltu.peers.Pairwise PeerLt → (s.consumeAll f).ltu.peers.Pairwise PeerLt) ∧
      (∀ a, a ≠ f.origin → (s.consumeAll f).peer a = s.peer a) ∧ (s.consumeAll f).bins = s.bins ∧
      (r.newFlag = false → (s.consumeAll f).ltu.ownQueue = s.ltu.ownQueue) ∧
      (r.newFlag = true → s.port.link = .joining ∨ s.port.link = .joined → (∀ g ∈ s.ltu.ownQueue, g.kind ≠ 0x11) →
        OwnJoins s (s.consumeAll f) (s.rollFrame false)) ∧
      ((∃ g ∈ s.ltu.ownQueue, g.kind = 0x11) ∨ s.port.link = .severed ∨ s.port.link = .bypassed →
        (s.consumeAll f).ltu.ownQueue = s.ltu.ownQueue)) := by
  intro r
  obtain ⟨hbad, hgood⟩ := consumeAll_roll (s := s) hkind
  refine ⟨hbad, fun htakeable => ?_⟩
  obtain ⟨hpeer, hplace, hsorted, hothers⟩ := takePeer_spec s f.origin r
  obtain ⟨hanswerPeers, hanswerBins, hjoins, hforbids⟩ := answerRoll_spec (s := s) (u := s.takePeer f.origin r)
    rfl rfl rfl rfl rfl
  have htaken := hgood htakeable
  have hpeers : (s.consumeAll f).ltu.peers = (s.takePeer f.origin r).ltu.peers := by
    rw [htaken]
    split
    · exact hanswerPeers
    · rfl
  have hsame : ∀ a, (s.consumeAll f).peer a = (s.takePeer f.origin r).peer a := fun a => by rw [peer_eq, hpeers, ← peer_eq]
  obtain ⟨hgate, hdigest, hequal, hheard, hnew, hold⟩ := rollEntry_spec s f.origin r
  refine ⟨⟨_, (hsame _).trans hpeer, hgate, hdigest, hequal, hheard, hnew, hold⟩, by rwa [hpeers], by rwa [hpeers],
    fun a ha => (hsame a).trans (hothers a ha), ?_, fun hflag => ?_, fun hflag hlink hnone => ?_, fun hwaits => ?_⟩
  · rw [htaken]
    split
    · exact hanswerBins
    · rfl
  · rw [htaken, if_neg (by rw [hflag]; exact Bool.false_ne_true)]
    rfl
  · rw [htaken, if_pos hflag]
    exact hjoins hlink hnone
  · rw [htaken, hforbids hwaits, ite_self]
    rfl

/-! ### BINSTATE and STATUS to all (R115, R167, R170) -/

theorem consumeAll_binstate {s : State} {f : Frame} (h : f.kind = 0x33) :
    s.consumeAll f = s.binstateArrival f.origin f.payload := by
  have hroll : ¬ f.kind = Config.kindRoll := by rw [h]; decide
  exact (if_neg hroll).trans (if_pos h)

theorem consumeAll_status {s : State} {f : Frame} (h : f.kind = 0x44) :
    s.consumeAll f = if (s.peer f.origin).isNone then s.startRecall else s := by
  have hroll : ¬ f.kind = Config.kindRoll := by rw [h]; decide
  have hbinstate : ¬ f.kind = Config.kindBinstate := by rw [h]; decide
  exact ((if_neg hroll).trans (if_neg hbinstate)).trans (if_pos h)

theorem consumeAll_unknown {s : State} {f : Frame} (hroll : f.kind ≠ 0x11) (hbinstate : f.kind ≠ 0x33)
    (hstatus : f.kind ≠ 0x44) : s.consumeAll f = s :=
  ((if_neg hroll).trans (if_neg hbinstate)).trans (if_neg hstatus)

/-- R115, R167: a BINSTATE of a known peer. -/
theorem binstateToAll {s : State} {f : Frame} (hkind : f.kind = 0x33) (hknown : (s.peer f.origin).isSome = true) :
    (binstateOk f.payload = false → s.consumeAll f = s.count .lineDrops) ∧
    (binstateOk f.payload = true →
      (s.consumeAll f).bins.board = s.bins.board.filter (fun e => e.peer != f.origin) ++
        (decodeReports f.payload).map (boardEntry f.origin (decodeHeader f.payload) s.ctl.clock) ∧
      (∀ p, (s.consumeAll f).peer f.origin = some p → p.tracking = (decodeHeader f.payload).tracking) ∧
      (∀ a, a ≠ f.origin → (s.consumeAll f).peer a = s.peer a) ∧ (s.consumeAll f).bins.recs = s.bins.recs ∧
      (s.consumeAll f).counters = s.counters) := by
  have hsome : ¬ (s.peer f.origin).isNone = true := by simp [Option.isNone_iff_eq_none, Option.isSome_iff_ne_none.mp hknown]
  rw [consumeAll_binstate hkind, State.binstateArrival, if_neg hsome]
  refine ⟨fun hbad => if_neg (by simp [hbad]), fun hgood => ?_⟩
  rw [if_pos hgood]
  have hpeer : ∀ a, ((s.takeBinstate f.origin f.payload).setPeerTracking f.origin
      (decodeHeader f.payload).tracking).peer a = (s.peer a).map (fun p =>
        if p.address = f.origin then { p with tracking := (decodeHeader f.payload).tracking } else p) := by
    intro a
    refine peerOf_map s.ltu.peers _ a fun p => ?_
    split <;> rfl
  refine ⟨rfl, fun p hp => ?_, fun a ha => ?_, rfl, rfl⟩
  · rw [hpeer] at hp
    obtain ⟨q, hq, rfl⟩ := Option.map_eq_some_iff.mp hp
    rw [if_pos (peerOf_address (l := s.ltu.peers) hq)]
  · rw [hpeer]
    cases hp : s.peer a with
    | none => rfl
    | some p =>
      have haddress := peerOf_address (l := s.ltu.peers) hp
      simp [haddress, ha]

/-- R170: a recall, where no recall timer runs and the link is JOINED. -/
theorem startRecall_spec (s : State) :
    (s.port.link ≠ .joined ∨ s.ltu.recallTimer ≠ none → s.startRecall = s) ∧
    (s.port.link = .joined → s.ltu.recallTimer = none →
      s.startRecall.ltu.recallTimer = some 1000000000 ∧ s.startRecall.ltu.peers = s.ltu.peers ∧
      OwnJoins s s.startRecall (s.rollFrame true)) := by
  refine ⟨fun h => if_neg ?_, fun hlink hnone => ?_⟩
  · rintro ⟨hlink, hnone⟩
    rcases h with h | h
    · exact h hlink
    · exact h hnone
  · have hjoins := ownJoins_enqueueOwn (s := s) (u := s) (f := s.rollFrame true) (by simp [hlink])
      (show Config.kindRoll ≠ 0x33 by decide) rfl rfl Iff.rfl rfl
    have hrecall : s.startRecall = (s.enqueueOwn (s.rollFrame true)).setLtu
        { (s.enqueueOwn (s.rollFrame true)).ltu with recallTimer := Timer.start Config.recallMs } := if_pos ⟨hlink, hnone⟩
    rw [hrecall]
    refine ⟨rfl, by simp, ?_⟩
    exact hjoins

/-- R170: a BINSTATE or a STATUS from an unknown origin recalls it. -/
theorem unknownToAll {s : State} {f : Frame} (hkind : f.kind = 0x33 ∨ f.kind = 0x44)
    (hunknown : (s.peer f.origin).isNone = true) : s.consumeAll f = s.startRecall := by
  rcases hkind with hkind | hkind
  · rw [consumeAll_binstate hkind]
    exact if_pos hunknown
  · rw [consumeAll_status hkind]
    exact if_pos hunknown

/-- Settles O50. -/
theorem framesForAllAreTaken : Obligations.FramesForAllAreTaken := by
  unfold Obligations.FramesForAllAreTaken
  refine ⟨hear_spec, fun s f => ?_, fun s f => ?_, fun payload => setReaddressed_spec, takeable_iff, binstateOk_iff,
    fun s before after own => nextPeer_spec, rollToAll, fun s f => binstateToAll, fun s f hkind hknown => ?_,
    fun s f => consumeAll_unknown, fun s f hkind hunknown => ?_⟩
  · obtain ⟨hdrops, hrepeats⟩ := repeatFrame_cases s f
    exact ⟨fun h => (dispatch_own h).1, fun h => (dispatch_own h).2, dispatch_mine,
      fun h hdest => (dispatch_others h hdest).1, fun h hdest => (dispatch_others h hdest).2, hdrops, hrepeats⟩
  · obtain ⟨hresends, hdrops⟩ := undelivered_cases s f
    refine ⟨removePeer_stands, fun hown hpeer => ?_, hresends, hdrops⟩
    obtain ⟨hltu, hbins, hsame, -⟩ := removePeer_spec hown hpeer
    have hdecide : ∀ n : Nat, (n != f.dest) = decide (n ≠ f.dest) := fun n => by
      rw [Bool.eq_iff_iff, bne_iff_ne, decide_eq_true_iff]
    refine ⟨hsame, hltu.trans ?_, hbins.trans ?_⟩
    · simp only [hdecide]
    · simp only [hdecide]
  · rw [consumeAll_status hkind, if_neg]
    simp [Option.isNone_iff_eq_none, Option.isSome_iff_ne_none.mp hknown]
  · rw [unknownToAll hkind hunknown]
    exact startRecall_spec s

end Sys2Proof.Machine

/-! The bytes of a payload read back: words, blocks of equal size, and the fields of a packed byte (section 12.1). -/

namespace Sys2Proof.Machine

/-! ### Bytes and words by place -/

@[simp] theorem byteOf_toNat (n : Nat) : (byteOf n).toNat = n % 256 := BitVec.toNat_ofNat n 8

@[simp] theorem byteAt_cons_zero (b : Byte) (bs : List Byte) : byteAt (b :: bs) 0 = b.toNat := rfl

@[simp] theorem byteAt_cons_succ (b : Byte) (bs : List Byte) (i : Nat) : byteAt (b :: bs) (i + 1) = byteAt bs i := rfl

theorem wordAt_eq_mod {bs : List Byte} {i n : Nat} (hlow : byteAt bs i = (byteOf n).toNat)
    (hhigh : byteAt bs (i + 1) = (byteOf (n / 256)).toNat) : wordAt bs i = n % 65536 := by
  rw [byteOf_toNat] at hlow hhigh
  rw [wordAt, hlow, hhigh]
  omega

theorem wordAt_wordBytes (n : Nat) (bs : List Byte) : wordAt (wordBytes n ++ bs) 0 = n % 65536 :=
  wordAt_eq_mod rfl rfl

@[simp] theorem wordBytes_length (n : Nat) : (wordBytes n).length = 2 := rfl

@[simp] theorem idBytes_length (i : TicketId) : (idBytes i).length = 3 := rfl

@[simp] theorem encodeReport_length (r : BinReport) : (encodeReport r).length = 8 := rfl

theorem byteAt_append_left {l : List Byte} {i : Nat} (h : i < l.length) (r : List Byte) : byteAt (l ++ r) i = byteAt l i := by
  unfold byteAt
  rw [List.getD_append _ _ _ _ h]

theorem byteAt_append_right (l r : List Byte) (i : Nat) : byteAt (l ++ r) (l.length + i) = byteAt r i := by
  unfold byteAt
  rw [List.getD_append_right _ _ _ _ (Nat.le_add_right _ _), Nat.add_sub_cancel_left]

theorem wordAt_append_right (l r : List Byte) (i : Nat) : wordAt (l ++ r) (l.length + i) = wordAt r i := by
  unfold wordAt
  rw [Nat.add_assoc, byteAt_append_right, byteAt_append_right]

/-! ### Blocks of equal size -/

section
variable {α : Type} {f : α → List Byte} {n : Nat}

theorem flatMap_blocks_length (hf : ∀ x, (f x).length = n) (l : List α) : (l.flatMap f).length = n * l.length := by
  induction l with
  | nil => simp
  | cons x l ih =>
    rw [List.flatMap_cons, List.length_append, hf, ih, List.length_cons]
    ring

theorem byteAt_block (hf : ∀ x, (f x).length = n) (l : List α) (k j : Nat) (hk : k < l.length) (hj : j < n) :
    byteAt (l.flatMap f) (n * k + j) = byteAt (f l[k]) j := by
  induction l generalizing k with
  | nil => cases hk
  | cons x l ih =>
    rw [List.flatMap_cons]
    cases k with
    | zero => rw [Nat.mul_zero, Nat.zero_add, byteAt_append_left (by rw [hf]; exact hj), List.getElem_cons_zero]
    | succ k =>
      have hplace : n * (k + 1) + j = (f x).length + (n * k + j) := by
        rw [hf]
        ring
      rw [hplace, byteAt_append_right, ih k (Nat.lt_of_succ_lt_succ hk), List.getElem_cons_succ]

theorem wordAt_block (hf : ∀ x, (f x).length = n) (l : List α) (k j : Nat) (hk : k < l.length) (hj : j + 1 < n) :
    wordAt (l.flatMap f) (n * k + j) = wordAt (f l[k]) j := by
  unfold wordAt
  rw [Nat.add_assoc, byteAt_block hf l k j hk (Nat.lt_of_succ_lt hj), byteAt_block hf l k (j + 1) hk hj]

theorem map_range_eq_self {l : List α} {g : Nat → α} (h : ∀ k (hk : k < l.length), g k = l[k]) :
    (List.range l.length).map g = l :=
  List.ext_getElem (by simp) fun k _ hk => by rw [List.getElem_map, List.getElem_range, h k hk]

end

/-! ### Packed bytes -/

theorem flagBit_le (b : Bool) (i : Nat) : flagBit b i ≤ 2 ^ i := by
  cases b
  · exact Nat.zero_le _
  · exact Nat.le_refl _

/-- A flag above `lo < 2 ^ i` and below a multiple of `2 ^ (i + 1)` comes back from its bit. -/
theorem testBit_flagBit {lo i : Nat} (h : lo < 2 ^ i) (b : Bool) (hi : Nat) :
    (lo + flagBit b i + 2 ^ (i + 1) * hi).testBit i = b := by
  have hquot : (lo + flagBit b i + 2 ^ (i + 1) * hi) / 2 ^ i = (if b then 1 else 0) + 2 * hi := by
    have hsum : lo + flagBit b i + 2 ^ (i + 1) * hi = lo + 2 ^ i * ((if b then 1 else 0) + 2 * hi) := by
      cases b <;> simp only [flagBit, if_true, Bool.false_eq_true, if_false] <;> ring
    rw [hsum, Nat.add_mul_div_left _ _ (Nat.two_pow_pos i), Nat.div_eq_of_lt h, Nat.zero_add]
  rw [Nat.testBit_eq_decide_div_mod_eq, hquot, Nat.add_mul_mod_self_left]
  cases b <;> rfl

/-- A field between `lo < 2 ^ i` and a multiple of `2 ^ (i + w)` comes back from its bits. -/
theorem bitField_packed {lo v i w : Nat} (hlo : lo < 2 ^ i) (hv : v < 2 ^ w) (hi : Nat) :
    bitField (lo + 2 ^ i * v + 2 ^ (i + w) * hi) i w = v := by
  have hsum : lo + 2 ^ i * v + 2 ^ (i + w) * hi = lo + 2 ^ i * (v + 2 ^ w * hi) := by
    ring
  rw [bitField, hsum, Nat.add_mul_div_left _ _ (Nat.two_pow_pos i), Nat.div_eq_of_lt hlo, Nat.zero_add,
    Nat.add_mul_mod_self_left, Nat.mod_eq_of_lt hv]

end Sys2Proof.Machine

/-! A TICKET, a ROLL and a BINSTATE from their bytes (R192, section 12.2). -/

namespace Sys2Proof.Machine

/-! ### Codes back and forth -/

theorem reasonOfCode_reasonCode (r : Option PassReason) : reasonOfCode (reasonCode r) = r := by
  rcases r with _ | r
  · rfl
  · cases r <;> rfl

theorem reasonCode_le (r : Option PassReason) : reasonCode r ≤ 11 := by
  rcases r with _ | r
  · decide
  · cases r <;> decide

theorem binStateOfCode_code (x : BinState) : binStateOfCode x.code = some x := by
  cases x <;> rfl

theorem BinState.code_lt (x : BinState) : x.code < 8 := by
  cases x <;> decide

theorem Mode.code_le (m : Mode) : m.code ≤ 2 := by
  cases m <;> decide

theorem modeOfCode_code {m : Mode} (h : m.running = true) : modeOfCode m.code = some m := by
  cases m with
  | run => rfl
  | service => rfl
  | safe => rfl
  | start => exact absurd h (by decide)
  | halted => exact absurd h (by decide)

/-! ### TICKET -/

theorem idAt_idBytes {i : TicketId} (horigin : i.origin ≤ 16) (hserial : i.serial < 4096) (bs : List Byte) :
    idAt (idBytes i ++ bs) 0 = i := by
  have hfirst : byteAt (idBytes i ++ bs) 0 = i.origin := by
    simp only [idBytes, List.cons_append, byteAt_cons_zero, byteOf_toNat]
    omega
  have hword : wordAt (idBytes i ++ bs) 1 = i.serial % 65536 := wordAt_wordBytes i.serial bs
  unfold idAt
  rw [hfirst, hword, Nat.mod_eq_of_lt (show i.serial < 65536 by omega), Nat.mod_eq_of_lt hserial]

theorem idAt_append_right (l r : List Byte) (i : Nat) : idAt (l ++ r) (l.length + i) = idAt r i := by
  unfold idAt
  rw [Nat.add_assoc, byteAt_append_right, wordAt_append_right]

theorem idAt_block {l : List TicketId} (hl : ∀ i ∈ l, i.origin ≤ 16 ∧ i.serial < 4096) (k : Nat) (hk : k < l.length) :
    idAt (l.flatMap idBytes) (3 * k) = l[k] := by
  obtain ⟨horigin, hserial⟩ := hl _ (List.getElem_mem hk)
  have hread := idAt_idBytes horigin hserial []
  rw [List.append_nil] at hread
  have hbyte := byteAt_block idBytes_length l k 0 hk (by decide)
  have hword := wordAt_block idBytes_length l k 1 hk (by decide)
  rw [Nat.add_zero] at hbyte
  rw [← hread]
  unfold idAt
  rw [hbyte, hword]

/-- The 14 bytes of a TICKET before its merged ids. -/
def ticketHead (t : Ticket) (readdressed : Bool) : List Byte :=
  idBytes t.id ++ wordBytes t.lead ++ wordBytes t.length ++ [byteOf t.cls, byteOf t.height, byteOf t.dim] ++
    wordBytes (t.metal.getD 0xFFFF) ++
    [byteOf (t.passes + 16 * t.missed + flagBit t.overlong 6 + flagBit readdressed 7), byteOf (reasonCode t.lastReason)]

theorem encodeTicket_eq (t : Ticket) (readdr : Bool) : encodeTicket t readdr = ticketHead t readdr ++ t.merged.flatMap idBytes :=
  rfl

@[simp] theorem ticketHead_length (t : Ticket) (readdr : Bool) : (ticketHead t readdr).length = 14 := rfl

theorem encodeTicket_length (t : Ticket) (readdr : Bool) : (encodeTicket t readdr).length = 14 + 3 * t.merged.length := by
  rw [encodeTicket_eq, List.length_append, ticketHead_length, flatMap_blocks_length idBytes_length]

theorem flags_packed {passes missed : Nat} (hpasses : passes ≤ 15) (hmissed : missed ≤ 3) (overlong readdr : Bool) :
    let v := (passes + 16 * missed + flagBit overlong 6 + flagBit readdr 7) % 256
    bitField v 0 4 = passes ∧ bitField v 4 2 = missed ∧ v.testBit 6 = overlong ∧ v.testBit 7 = readdr := by
  intro v
  have hflag6 := flagBit_le overlong 6
  have hflag7 := flagBit_le readdr 7
  have hdouble : flagBit readdr 7 = 2 ^ 7 * flagBit readdr 0 := by cases readdr <;> rfl
  have hfour : flagBit overlong 6 = 2 ^ 6 * flagBit overlong 0 := by cases overlong <;> rfl
  have hv : v = passes + 16 * missed + flagBit overlong 6 + flagBit readdr 7 := Nat.mod_eq_of_lt (by omega)
  refine ⟨?_, ?_, ?_, ?_⟩
  · have h := bitField_packed (lo := 0) (i := 0) (w := 4) (by decide) (show passes < 2 ^ 4 by omega)
      (missed + 4 * flagBit overlong 0 + 8 * flagBit readdr 0)
    rw [hv]
    convert h using 2
    omega
  · have h := bitField_packed (lo := passes) (i := 4) (w := 2) (by omega) (show missed < 2 ^ 2 by omega)
      (flagBit overlong 0 + 2 * flagBit readdr 0)
    rw [hv]
    convert h using 2
    omega
  · have h := testBit_flagBit (lo := passes + 16 * missed) (i := 6) (by omega) overlong (flagBit readdr 0)
    rw [hv]
    convert h using 2
    omega
  · have h := testBit_flagBit (lo := passes + 16 * missed + flagBit overlong 6) (i := 7) (by omega) readdr 0
    rwa [← hv] at h

theorem ticketHead_bytes (k : Ticket) (readdr : Bool) (bs : List Byte) :
    let p := ticketHead k readdr ++ bs
    idAt p 0 = idAt (idBytes k.id) 0 ∧ wordAt p 3 = k.lead % 65536 ∧ wordAt p 5 = k.length % 65536 ∧
    byteAt p 7 = k.cls % 256 ∧ byteAt p 8 = k.height % 256 ∧ byteAt p 9 = k.dim % 256 ∧
    wordAt p 10 = k.metal.getD 0xFFFF % 65536 ∧
    byteAt p 12 = (k.passes + 16 * k.missed + flagBit k.overlong 6 + flagBit readdr 7) % 256 ∧
    byteAt p 13 = reasonCode k.lastReason % 256 := by
  exact ⟨rfl, wordAt_eq_mod rfl rfl, wordAt_eq_mod rfl rfl, byteOf_toNat _, byteOf_toNat _, byteOf_toNat _,
    wordAt_eq_mod rfl rfl, byteOf_toNat _, byteOf_toNat _⟩

theorem decodeTicket_encodeTicket {k : Ticket} (readdr : Bool) (hok : k.contentOk = true) (hserial : k.id.serial < 4096)
    (hlead : k.lead < 65536) (hpasses : k.passes ≤ 15) (hmissed : k.missed ≤ 3) (hmerged : ∀ i ∈ k.merged, i.serial < 4096) :
    decodeTicket (encodeTicket k readdr) = k ∧ readdressed (encodeTicket k readdr) = readdr := by
  obtain ⟨⟨-, horigin⟩, ⟨-, hlength⟩, hcls, ⟨-, hheight⟩, hdim, hmetal, -, horigins, -, -⟩ := (contentOk_iff k).mp hok
  obtain ⟨bId, bLead, bLength, bCls, bHeight, bDim, bMetal, bFlags, bReason⟩ :=
    ticketHead_bytes k readdr (k.merged.flatMap idBytes)
  rw [← encodeTicket_eq] at bId bLead bLength bCls bHeight bDim bMetal bFlags bReason
  obtain ⟨fPasses, fMissed, fOverlong, fReaddr⟩ := flags_packed hpasses hmissed k.overlong readdr
  rw [← bFlags] at fPasses fMissed fOverlong fReaddr
  have hid : idAt (encodeTicket k readdr) 0 = k.id := by
    rw [bId]
    exact (idAt_idBytes horigin hserial [] :)
  have hmetalBack : (if wordAt (encodeTicket k readdr) 10 = 0xFFFF then none else some (wordAt (encodeTicket k readdr) 10)) =
      k.metal := by
    rw [bMetal]
    cases hm : k.metal with
    | none => rfl
    | some m =>
      have hle := hmetal m hm
      rw [Option.getD_some, Nat.mod_eq_of_lt (by omega), if_neg (by omega)]
  have hreason : reasonOfCode (byteAt (encodeTicket k readdr) 13) = k.lastReason := by
    have hle := reasonCode_le k.lastReason
    rw [bReason, Nat.mod_eq_of_lt (by omega), reasonOfCode_reasonCode]
  have hcount : ((encodeTicket k readdr).length - 14) / 3 = k.merged.length := by
    rw [encodeTicket_length]
    omega
  have hids : (List.range (((encodeTicket k readdr).length - 14) / 3)).map
      (fun j => idAt (encodeTicket k readdr) (14 + 3 * j)) = k.merged := by
    rw [hcount]
    refine map_range_eq_self fun j hj => ?_
    rw [encodeTicket_eq]
    exact (idAt_append_right (ticketHead k readdr) _ _).trans
      (idAt_block (fun i hi => ⟨(horigins i hi).2, hmerged i hi⟩) j hj)
  refine ⟨?_, fReaddr⟩
  unfold decodeTicket
  rw [hid, bLead, bLength, bCls, bHeight, bDim, hmetalBack, fPasses, fMissed, fOverlong, hreason, hids,
    Nat.mod_eq_of_lt hlead, Nat.mod_eq_of_lt (show k.length < 65536 by omega),
    Nat.mod_eq_of_lt (show k.length < 1024 by omega), Nat.mod_eq_of_lt (show k.cls < 256 by omega),
    Nat.mod_eq_of_lt (show k.height < 256 by omega), Nat.mod_eq_of_lt (show k.dim < 256 by omega)]

theorem encodeTicket_lengthAllowed {k : Ticket} (readdr : Bool) (hok : k.contentOk = true) :
    lengthAllowed 0x22 (encodeTicket k readdr).length = true := by
  obtain ⟨-, -, -, -, -, -, hmerged, -⟩ := (contentOk_iff k).mp hok
  rw [encodeTicket_length]
  interval_cases k.merged.length <;> rfl

/-! ### ROLL -/

theorem decodeRoll_encodeRoll {r : RollContent} (m : Mode) (hok : r.takeable = true) (hrevision : r.revision < 256) :
    decodeRoll (encodeRoll r m) = r := by
  obtain ⟨hfamily, hmodel, hdist, hbins, -, hexit⟩ := (takeable_iff r).mp hok
  have hmode := Mode.code_le m
  have hflag := flagBit_le r.newFlag 0
  have hdigest := r.digest.isLt
  have hnew : ((flagBit r.newFlag 0 + 2 * m.code) % 256).testBit 0 = r.newFlag := by
    have h := testBit_flagBit (lo := 0) (i := 0) (by decide) r.newFlag m.code
    rw [Nat.mod_eq_of_lt (by omega)]
    convert h using 2
    omega
  have b0 : byteAt (encodeRoll r m) 0 = (flagBit r.newFlag 0 + 2 * m.code) % 256 := byteOf_toNat _
  have w1 : wordAt (encodeRoll r m) 1 = r.gateDist % 65536 := wordAt_eq_mod rfl rfl
  have b3 : byteAt (encodeRoll r m) 3 = r.binCount % 256 := byteOf_toNat _
  have b4 : byteAt (encodeRoll r m) 4 = r.family % 256 := byteOf_toNat _
  have b5 : byteAt (encodeRoll r m) 5 = r.model % 256 := byteOf_toNat _
  have b6 : byteAt (encodeRoll r m) 6 = r.revision % 256 := byteOf_toNat _
  have w7 : wordAt (encodeRoll r m) 7 = r.digest.toNat % 65536 := wordAt_eq_mod rfl rfl
  have w9 : wordAt (encodeRoll r m) 9 = r.exitX % 65536 := wordAt_eq_mod rfl rfl
  unfold decodeRoll
  rw [b0, w1, b3, b4, b5, b6, w7, w9, hnew, Nat.mod_eq_of_lt (show r.gateDist < 65536 by omega),
    Nat.mod_eq_of_lt (show r.binCount < 256 by omega), Nat.mod_eq_of_lt (show r.family < 256 by omega),
    Nat.mod_eq_of_lt (show r.model < 256 by omega), Nat.mod_eq_of_lt hrevision, Nat.mod_eq_of_lt hdigest,
    Nat.mod_eq_of_lt (show r.exitX < 65536 by omega), BitVec.ofNat_toNat, BitVec.setWidth_eq]

/-! ### BINSTATE -/

theorem decodeHeader_encodeHeader {m : Mode} (c : Condition) (rest : List Byte) (h : m.running = true) :
    decodeHeader (encodeHeader m c :: rest) = ⟨some m, c.tracking, c.degraded⟩ := by
  have hbyte : byteAt (encodeHeader m c :: rest) 0 = (m.code + flagBit c.tracking 2 + flagBit c.degraded 3) % 256 :=
    byteOf_toNat _
  have hmode := Mode.code_le m
  have hflag2 := flagBit_le c.tracking 2
  have hflag3 := flagBit_le c.degraded 3
  have hquad : flagBit c.tracking 2 = 4 * flagBit c.tracking 0 := by cases c.tracking <;> rfl
  have hoct : flagBit c.degraded 3 = 8 * flagBit c.degraded 0 := by cases c.degraded <;> rfl
  have hfield : bitField (m.code + flagBit c.tracking 2 + flagBit c.degraded 3) 0 2 = m.code := by
    convert bitField_packed (lo := 0) (i := 0) (w := 2) (by decide) (show m.code < 2 ^ 2 by omega)
      (flagBit c.tracking 0 + 2 * flagBit c.degraded 0) using 2
    omega
  have htracking : (m.code + flagBit c.tracking 2 + flagBit c.degraded 3).testBit 2 = c.tracking := by
    convert testBit_flagBit (lo := m.code) (i := 2) (by omega) c.tracking (flagBit c.degraded 0) using 2
    omega
  have hdegraded : (m.code + flagBit c.tracking 2 + flagBit c.degraded 3).testBit 3 = c.degraded :=
    testBit_flagBit (lo := m.code + flagBit c.tracking 2) (i := 3) (by omega) c.degraded 0
  unfold decodeHeader
  rw [hbyte, Nat.mod_eq_of_lt (by omega), hfield, htracking, hdegraded, modeOfCode_code h]

theorem reportAt_append_right (l r : List Byte) (i : Nat) : reportAt (l ++ r) (l.length + i) = reportAt r i := by
  unfold reportAt
  simp only [Nat.add_assoc, byteAt_append_right, wordAt_append_right]

theorem reportAt_encodeReport {r : BinReport} (hok : r.ok = true) : reportAt (encodeReport r) 0 = r := by
  obtain ⟨⟨-, hbin⟩, ⟨-, hcls⟩, ⟨-, hcapacity⟩, hfill, hpending, hstate⟩ := (reportOk_iff r).mp hok
  obtain ⟨x, hx⟩ := Option.ne_none_iff_exists'.mp hstate
  have hcode := BinState.code_lt x
  have hflag3 := flagBit_le r.unverified 3
  have hflag4 := flagBit_le r.fault 4
  have hoct : flagBit r.unverified 3 = 8 * flagBit r.unverified 0 := by cases r.unverified <;> rfl
  have hhex : flagBit r.fault 4 = 16 * flagBit r.fault 0 := by cases r.fault <;> rfl
  have b2 : byteAt (encodeReport r) 2 = x.code + flagBit r.unverified 3 + flagBit r.fault 4 := by
    have hread : byteAt (encodeReport r) 2 = ((r.state.map BinState.code).getD 0 + flagBit r.unverified 3 + flagBit r.fault 4) % 256 :=
      byteOf_toNat _
    rw [hread, hx, Option.map_some, Option.getD_some, Nat.mod_eq_of_lt (by omega)]
  have hfield : binStateOfCode (bitField (byteAt (encodeReport r) 2) 0 3) = r.state := by
    have hcodeBack : bitField (x.code + flagBit r.unverified 3 + flagBit r.fault 4) 0 3 = x.code := by
      convert bitField_packed (lo := 0) (i := 0) (w := 3) (by decide) (show x.code < 2 ^ 3 by omega)
        (flagBit r.unverified 0 + 2 * flagBit r.fault 0) using 2
      omega
    rw [b2, hcodeBack, binStateOfCode_code, hx]
  have hunverified : (byteAt (encodeReport r) 2).testBit 3 = r.unverified := by
    rw [b2]
    convert testBit_flagBit (lo := x.code) (i := 3) (by omega) r.unverified (flagBit r.fault 0) using 2
    omega
  have hfault : (byteAt (encodeReport r) 2).testBit 4 = r.fault := by
    rw [b2]
    exact testBit_flagBit (lo := x.code + flagBit r.unverified 3) (i := 4) (by omega) r.fault 0
  have b0 : byteAt (encodeReport r) 0 = r.bin % 256 := byteOf_toNat _
  have b1 : byteAt (encodeReport r) 1 = r.cls % 256 := byteOf_toNat _
  have w3 : wordAt (encodeReport r) 3 = r.fill % 65536 := wordAt_eq_mod rfl rfl
  have b5 : byteAt (encodeReport r) 5 = r.pending % 256 := byteOf_toNat _
  have w6 : wordAt (encodeReport r) 6 = r.capacity % 65536 := wordAt_eq_mod rfl rfl
  unfold reportAt
  rw [b0, b1, hfield, hunverified, hfault, w3, b5, w6, Nat.mod_eq_of_lt (show r.bin < 256 by omega),
    Nat.mod_eq_of_lt (show r.cls < 256 by omega), Nat.mod_eq_of_lt (show r.fill < 65536 by omega),
    Nat.mod_eq_of_lt (show r.pending < 256 by omega), Nat.mod_eq_of_lt (show r.capacity < 65536 by omega)]

theorem reportAt_block {l : List BinReport} (hl : ∀ r ∈ l, r.ok = true) (k : Nat) (hk : k < l.length) :
    reportAt (l.flatMap encodeReport) (8 * k) = l[k] := by
  rw [← reportAt_encodeReport (hl _ (List.getElem_mem hk))]
  have hbyte := fun j (hj : j < 8) => byteAt_block encodeReport_length l k j hk hj
  have hword := fun j (hj : j + 1 < 8) => wordAt_block encodeReport_length l k j hk hj
  have hfirst := hbyte 0 (by decide)
  rw [Nat.add_zero] at hfirst
  unfold reportAt
  simp only [Nat.zero_add, hfirst, hbyte 1 (by decide), hbyte 2 (by decide), hbyte 5 (by decide), hword 3 (by decide),
    hword 6 (by decide)]

theorem decodeReports_encodeReport (header : Byte) {l : List BinReport} (hl : ∀ r ∈ l, r.ok = true) :
    decodeReports (header :: l.flatMap encodeReport) = l := by
  have hcount : ((header :: l.flatMap encodeReport).length - 1) / 8 = l.length := by
    rw [List.length_cons, flatMap_blocks_length encodeReport_length]
    omega
  unfold decodeReports
  rw [hcount]
  exact map_range_eq_self fun k hk =>
    (reportAt_append_right [header] (l.flatMap encodeReport) (8 * k)).trans (reportAt_block hl k hk)

/-- Settles O59: the bytes of each field lie at their own places, and a packed byte gives each field back from its bits. -/
theorem payloadsRoundTrip : Obligations.PayloadsRoundTrip := by
  refine ⟨fun k readdr hok hserial hlead hpasses hmissed hmerged => ?_,
    fun r m hok hrevision => ⟨decodeRoll_encodeRoll m hok hrevision, rfl⟩,
    fun m c rest h => decodeHeader_encodeHeader c rest h, fun m c l hl => decodeReports_encodeReport _ hl⟩
  obtain ⟨hback, hreaddr⟩ := decodeTicket_encodeTicket readdr hok hserial hlead hpasses hmissed hmerged
  exact ⟨hback, hreaddr, encodeTicket_lengthAllowed readdr hok⟩

end Sys2Proof.Machine

/-! The STATUS frame, field by field (R189, section 12.2). -/

namespace Sys2Proof.Machine

/-! ### The mode, the condition and the link state -/

theorem Condition.code_lt (c : Condition) : c.code < 4 := by
  cases c <;> decide

theorem LinkState.code_lt (l : LinkState) : l.code < 4 := by
  cases l <;> decide

theorem Mode.code_eq_iff {m : Mode} (h : m.running = true) :
    (m.code = 0 ↔ m = .run) ∧ (m.code = 1 ↔ m = .service) ∧ (m.code = 2 ↔ m = .safe) := by
  cases m with
  | run => decide
  | service => decide
  | safe => decide
  | start => exact absurd h (by decide)
  | halted => exact absurd h (by decide)

theorem Condition.code_eq_iff (c : Condition) : (c.code = 0 ↔ c = .unsynced) ∧ (c.code = 1 ↔ c = .normal) ∧
    (c.code = 2 ↔ c = .fallback) ∧ (c.code = 3 ↔ c = .freeRun) := by
  cases c <;> decide

theorem LinkState.code_eq_iff (l : LinkState) :
    (l.code = 1 ↔ l = .joining) ∧ (l.code = 2 ↔ l = .joined) ∧ (l.code = 3 ↔ l = .severed) := by
  cases l <;> decide

/-- The first byte of a STATUS payload. -/
def State.statusCodes (s : State) : Nat :=
  s.ctl.mode.code + 4 * s.pos.cond.code + 16 * s.port.link.code + flagBit s.pos.slipFlag 6

theorem statusCodes_fields (s : State) : s.statusCodes < 256 ∧ bitField s.statusCodes 0 2 = s.ctl.mode.code ∧
    bitField s.statusCodes 2 2 = s.pos.cond.code ∧ bitField s.statusCodes 4 2 = s.port.link.code ∧
    s.statusCodes.testBit 6 = s.pos.slipFlag := by
  have hmode := Mode.code_le s.ctl.mode
  have hcond := Condition.code_lt s.pos.cond
  have hlink := LinkState.code_lt s.port.link
  have hslip := flagBit_le s.pos.slipFlag 6
  have hshift : flagBit s.pos.slipFlag 6 = 64 * flagBit s.pos.slipFlag 0 := by cases s.pos.slipFlag <;> rfl
  unfold State.statusCodes
  refine ⟨by omega, ?_, ?_, ?_, ?_⟩
  · convert bitField_packed (lo := 0) (i := 0) (w := 2) (by decide) (show s.ctl.mode.code < 2 ^ 2 by omega)
      (s.pos.cond.code + 4 * s.port.link.code + 16 * flagBit s.pos.slipFlag 0) using 2
    omega
  · convert bitField_packed (lo := s.ctl.mode.code) (i := 2) (w := 2) (by omega) hcond
      (s.port.link.code + 4 * flagBit s.pos.slipFlag 0) using 2
    omega
  · convert bitField_packed (lo := s.ctl.mode.code + 4 * s.pos.cond.code) (i := 4) (w := 2) (by omega) hlink
      (flagBit s.pos.slipFlag 0) using 2
    omega
  · exact testBit_flagBit (lo := s.ctl.mode.code + 4 * s.pos.cond.code + 16 * s.port.link.code) (by omega) s.pos.slipFlag 0

/-! ### The faults -/

theorem faultBits_lt (l : List Beam) : faultBits l < 2 ^ l.length := by
  induction l with
  | nil => decide
  | cons b l ih =>
    rw [faultBits, List.length_cons, Nat.pow_succ]
    split <;> omega

theorem testBit_faultBits (l : List Beam) (hi k : Nat) (hk : k < l.length) :
    (faultBits l + 2 ^ l.length * hi).testBit k = l[k].masked := by
  induction l generalizing k with
  | nil => cases hk
  | cons b l ih =>
    have hsplit : faultBits (b :: l) + 2 ^ (b :: l).length * hi =
        2 * (faultBits l + 2 ^ l.length * hi) + (if b.masked then 1 else 0) := by
      rw [faultBits, List.length_cons, Nat.pow_succ]
      ring
    rw [hsplit]
    cases k with
    | zero =>
      rw [Nat.testBit_zero, List.getElem_cons_zero]
      cases b.masked
      · exact decide_eq_false (by simp)
      · exact decide_eq_true (by simp)
    | succ k =>
      have hhalf : (2 * (faultBits l + 2 ^ l.length * hi) + (if b.masked then 1 else 0)) / 2 =
          faultBits l + 2 ^ l.length * hi := by
        split <;> omega
      rw [Nat.testBit_succ, hhalf, List.getElem_cons_succ]
      exact ih k (Nat.lt_of_succ_lt_succ hk)

/-- Bytes 1 and 2 of a STATUS payload. -/
def State.statusFaults (s : State) : Nat :=
  faultBits s.gate.beams + flagBit s.gate.coilFault 12 + flagBit s.gate.overRange 13

theorem statusFaults_fields {s : State} (h : s.gate.beams.length = 12) : s.statusFaults < 65536 ∧
    (∀ k (h : k < s.gate.beams.length), s.statusFaults.testBit k = s.gate.beams[k].masked) ∧
    s.statusFaults.testBit 12 = s.gate.coilFault ∧ s.statusFaults.testBit 13 = s.gate.overRange := by
  have hbeams := faultBits_lt s.gate.beams
  rw [h] at hbeams
  have hcoil := flagBit_le s.gate.coilFault 12
  have hrange := flagBit_le s.gate.overRange 13
  have hcoilShift : flagBit s.gate.coilFault 12 = 4096 * flagBit s.gate.coilFault 0 := by cases s.gate.coilFault <;> rfl
  have hrangeShift : flagBit s.gate.overRange 13 = 8192 * flagBit s.gate.overRange 0 := by cases s.gate.overRange <;> rfl
  unfold State.statusFaults
  refine ⟨by omega, fun k hk => ?_, ?_, ?_⟩
  · have hbit := testBit_faultBits s.gate.beams (flagBit s.gate.coilFault 0 + 2 * flagBit s.gate.overRange 0) k hk
    convert hbit using 2
    rw [h]
    omega
  · convert testBit_flagBit (lo := faultBits s.gate.beams) (i := 12) hbeams s.gate.coilFault
      (flagBit s.gate.overRange 0) using 2
    omega
  · exact testBit_flagBit (lo := faultBits s.gate.beams + flagBit s.gate.coilFault 12) (by omega) s.gate.overRange 0

/-! ### The age of the Expect List (R55) -/

theorem since_eq (s : State) (t : BitVec 32) : s.since t = (s.ctl.clock - t).toNat := rfl

theorem expectAge_spec (s : State) : (s.trk.expect = [] → s.expectAge = 0) ∧
    (s.trk.expect ≠ [] → ∃ e ∈ s.trk.expect, s.expectAge = min 65535 (s.ctl.clock - e.arrival).toNat) ∧
    ∀ e ∈ s.trk.expect, min 65535 (s.ctl.clock - e.arrival).toNat ≤ s.expectAge := by
  have hage : s.expectAge = min 65535 ((s.trk.expect.map (fun e => s.since e.arrival)).foldl max 0) := by
    rw [List.foldl_map]
    rfl
  obtain ⟨-, habove, hreached⟩ := foldl_max_spec (s.trk.expect.map (fun e => s.since e.arrival)) 0
  rw [hage]
  refine ⟨fun hnil => by rw [hnil]; rfl, fun hne => ?_, fun e he => ?_⟩
  · rcases hreached with hzero | hmem
    · obtain ⟨e, he⟩ := List.exists_mem_of_ne_nil _ hne
      have hle := habove _ (List.mem_map_of_mem he)
      rw [hzero] at hle
      refine ⟨e, he, ?_⟩
      rw [hzero, ← since_eq, Nat.le_zero.mp hle]
    · obtain ⟨e, he, hmax⟩ := List.mem_map.mp hmem
      exact ⟨e, he, by rw [← hmax, since_eq]⟩
  · have hle := habove _ (List.mem_map_of_mem he)
    rw [← since_eq]
    omega

/-! ### The frame -/

theorem statusFrame_payload (s : State) : s.statusFrame.payload =
    ([byteOf s.statusCodes] ++ wordBytes s.statusFaults ++ wordBytes s.expectAge) ++
      (s.counters.inOrder.flatMap wordBytes ++ wordBytes s.counters.cuts) := by
  simp only [State.statusFrame, State.buildFrame, State.statusCodes, State.statusFaults, List.append_assoc]

theorem statusFrame_fields (s : State) : let p := s.statusFrame.payload
    p.length = 39 ∧ byteAt p 0 = s.statusCodes % 256 ∧ wordAt p 1 = s.statusFaults % 65536 ∧
    wordAt p 3 = s.expectAge % 65536 := by
  intro p
  have hp : p = _ := statusFrame_payload s
  rw [hp]
  exact ⟨rfl, byteOf_toNat _, wordAt_eq_mod rfl rfl, wordAt_eq_mod rfl rfl⟩

theorem wordAt_append_left {l : List Byte} {i : Nat} (h : i + 1 < l.length) (r : List Byte) :
    wordAt (l ++ r) i = wordAt l i := by
  rw [wordAt, byteAt_append_left (Nat.lt_of_succ_lt h), byteAt_append_left h, wordAt]

theorem wordAt_wordBytes_self (n : Nat) : wordAt (wordBytes n) 0 = n % 65536 := wordAt_eq_mod rfl rfl

theorem statusFrame_counter (s : State) (k : Nat) (h : k < s.counters.inOrder.length) :
    wordAt s.statusFrame.payload (5 + 2 * k) = s.counters.inOrder[k] % 65536 := by
  have hblocks : (s.counters.inOrder.flatMap wordBytes).length = 2 * s.counters.inOrder.length :=
    flatMap_blocks_length wordBytes_length _
  calc wordAt s.statusFrame.payload (5 + 2 * k)
      = wordAt (s.counters.inOrder.flatMap wordBytes ++ wordBytes s.counters.cuts) (2 * k) := by
        rw [statusFrame_payload]
        exact wordAt_append_right _ _ _
    _ = wordAt (s.counters.inOrder.flatMap wordBytes) (2 * k) := wordAt_append_left (by omega) _
    _ = wordAt (wordBytes s.counters.inOrder[k]) 0 := wordAt_block wordBytes_length _ k 0 h (by decide)
    _ = s.counters.inOrder[k] % 65536 := wordAt_wordBytes_self _

theorem statusFrame_cuts (s : State) : wordAt s.statusFrame.payload 37 = s.counters.cuts % 65536 := by
  rw [statusFrame_payload]
  exact wordAt_eq_mod rfl rfl

/-- Settles O60: each byte of the payload is read at its place, and the packed fields come back from their bits. -/
theorem statusFrameContent : Obligations.StatusFrameContent := by
  intro s hrun f
  obtain ⟨hlen, hcodes, hfaults, hage⟩ := statusFrame_fields s
  obtain ⟨hlt, hmode, hcond, hlink, hslip⟩ := statusCodes_fields s
  rw [Nat.mod_eq_of_lt hlt] at hcodes
  have hageLe : s.expectAge ≤ 65535 := Nat.min_le_left _ _
  rw [hcodes, hmode, hcond, hlink, hslip]
  refine ⟨⟨rfl, rfl, rfl, rfl, hlen⟩, modeOfCode_code hrun, rfl, rfl, rfl, fun hbeams => ?_, Mode.code_eq_iff hrun,
    Condition.code_eq_iff _, LinkState.code_eq_iff _, ?_, expectAge_spec s, rfl, fun k h hle => ?_, fun hle => ?_⟩
  · obtain ⟨hfaultsLt, hfaultFields⟩ := statusFaults_fields hbeams
    rw [hfaults, Nat.mod_eq_of_lt hfaultsLt]
    exact hfaultFields
  · rw [hage, Nat.mod_eq_of_lt (by omega)]
  · rw [statusFrame_counter s k h, Nat.mod_eq_of_lt (by omega)]
  · rw [statusFrame_cuts, Nat.mod_eq_of_lt (by omega)]

end Sys2Proof.Machine

/-! The entries to SERVICE and SAFE, and the exit from SERVICE, by their parts: every schedule cancelled, every pulse cut, the
visit's records, and the faults cleared (R106, R108, R131 to R133). -/

namespace Sys2Proof.Machine

/-! ### Every schedule cancelled (R132, R133) -/

/-- An item that is named by no item of the schedule is not touched by its cancellation. -/
theorem entry_cancelSchedule_other {s : State} {b : BinNo} {n : Nat} (r : PassReason)
    (h : ∀ it ∈ (s.ej.get b).schedule, it.ref ≠ n) : (s.cancelSchedule b r).entry n = s.entry n := by
  have hfold : ∀ (l : List SchedItem) (u : State), (∀ it ∈ l, it.ref ≠ n) →
      (l.foldl (fun acc it => acc.cancelItem b r it) u).entry n = u.entry n := by
    intro l
    induction l with
    | nil => exact fun u _ => rfl
    | cons it l ih =>
      intro u hl
      rw [List.foldl_cons, ih _ fun x hx => hl x (List.mem_cons_of_mem _ hx),
        entry_cancelItem_other _ _ _ _ _ (hl it List.mem_cons_self).symm]
  rw [State.cancelSchedule, hfold _ _ h, entry_setEjector]

/-- What a cancellation leaves of an entry stands through the next ones. -/
theorem settled_of_cancelled {s : State} {n : Nat} {e : TransitEntry} {r : PassReason}
    (h : s.entry n = if e.exitDone then none else some { e with state := .pass r }) :
    ∀ x, s.entry n = some x → (∀ c fp, x.state ≠ .scheduled c fp) ∧ (x.state.isPass = false ∨ x.exitDone = false) := by
  intro x hx
  rw [h] at hx
  cases hdone : e.exitDone with
  | true => simp [hdone] at hx
  | false =>
    rw [hdone, if_neg Bool.false_ne_true, Option.some.injEq] at hx
    subst hx
    exact ⟨fun c fp => by simp, .inr rfl⟩

theorem entry_cancelSchedules_settled {s : State} {n : Nat} (r : PassReason) (l : List BinNo)
    (h : ∀ e, s.entry n = some e → (∀ c fp, e.state ≠ .scheduled c fp) ∧ (e.state.isPass = false ∨ e.exitDone = false)) :
    (l.foldl (fun acc b => acc.cancelSchedule b r) s).entry n = s.entry n := by
  induction l generalizing s with
  | nil => rfl
  | cons b l ih =>
    have hstep := entry_cancelSchedule_settled b r h
    rw [List.foldl_cons, ih (by rw [hstep]; exact h), hstep]

/-- R80, R132: the first schedule that names the entry passes it, and the later ones leave it so. -/
theorem entry_cancelSchedules {s : State} {n : Nat} {e : TransitEntry} {b c : BinNo} {fp : Nat} (r : PassReason)
    (l : List BinNo) (hb : b ∈ l) (he : s.entry n = some e) (hs : e.state = .scheduled c fp)
    (hn : ∃ it ∈ (s.ej.get b).schedule, it.ref = n) : (l.foldl (fun acc b => acc.cancelSchedule b r) s).entry n =
      if e.exitDone then none else some { e with state := .pass r } := by
  induction l generalizing s with
  | nil => cases hb
  | cons x l ih =>
    rw [List.foldl_cons]
    by_cases hx : ∃ it ∈ (s.ej.get x).schedule, it.ref = n
    · obtain ⟨it, hit, rfl⟩ := hx
      have hstep := cancelSchedule_cancels s x r it hit e he c fp hs
      rw [entry_cancelSchedules_settled r l (settled_of_cancelled hstep), hstep]
    · have hxb : b ≠ x := fun hbx => hx (hbx ▸ hn)
      have hbl : b ∈ l := (List.mem_cons.mp hb).resolve_left hxb
      have hkeep : (s.cancelSchedule x r).entry n = s.entry n :=
        entry_cancelSchedule_other r fun it hit href => hx ⟨it, hit, href⟩
      refine ih hbl (by rw [hkeep, he]) ?_
      rwa [cancelSchedule_ej, Quad.get_set_other _ _ _ _ hxb]

theorem cancelAll_cancels (s : State) (b : BinNo) (r : PassReason) : Cancelled s (s.cancelAll r) b r :=
  fun it hit _ he _ _ hs => entry_cancelSchedules r allBins (mem_allBins b) he hs ⟨it, hit, rfl⟩

theorem cancelAll_record (s : State) (r : PassReason) (b : BinNo) : (s.cancelAll r).bins.recs.get b =
    { s.bins.recs.get b with pending := (s.bins.recs.get b).pending - (s.ej.get b).schedule.length } := by
  simp only [State.cancelAll, allBins, List.foldl_cons, List.foldl_nil, cancelSchedule_recs_eq, cancelSchedule_ej]
  cases b <;> rfl

@[simp] theorem cancelAll_snapshot (s : State) (r : PassReason) : (s.cancelAll r).bins.snapshot = s.bins.snapshot :=
  foldl_keeps (fun u : State => u.bins.snapshot) _ (by simp) _ _

theorem cancelAll_cuts (s : State) (r : PassReason) : (s.cancelAll r).counters.cuts = s.counters.cuts := by
  have hitem : ∀ (u : State) (b : BinNo) (it : SchedItem), (u.cancelItem b r it).counters.get .cuts = u.counters.get .cuts := by
    intro u b it
    rw [State.cancelItem, State.requestPass, decideExit_counter _ _ (by decide) (by decide) (by decide) (by decide)]
    simp
  have hschedule : ∀ (u : State) (b : BinNo), (u.cancelSchedule b r).counters.get .cuts = u.counters.get .cuts :=
    fun u b => foldl_keeps (fun u : State => u.counters.get .cuts) _ (fun u it => hitem u b it) _ _
  exact foldl_keeps (fun u : State => u.counters.get .cuts) _ hschedule _ _

/-! ### Every pulse cut (R133) -/

theorem cut_other {s : State} {b c : BinNo} (h : c ≠ b) : (s.cut b).ej.get c = s.ej.get c := by
  unfold State.cut
  split
  · exact Quad.get_set_other _ _ _ _ h
  · rfl

theorem cut_cuts (s : State) (b : BinNo) :
    (s.cut b).counters.cuts = if (s.ej.get b).state = .pulsing then bump16 s.counters.cuts else s.counters.cuts := by
  unfold State.cut
  split <;> rfl

/-- R133: each ejector that is in a pulse is counted once. -/
theorem cuts_counted {s : State} (l : List BinNo) (hl : l.Nodup) (h : s.counters.cuts ≤ 65535) :
    (l.foldl State.cut s).counters.cuts =
      min 65535 (s.counters.cuts + (l.filter (fun b => decide ((s.ej.get b).state = .pulsing))).length) := by
  induction l generalizing s with
  | nil => simp [Nat.min_eq_right h]
  | cons x l ih =>
    obtain ⟨hx, hrest⟩ := List.nodup_cons.mp hl
    have hothers : l.filter (fun b => decide (((s.cut x).ej.get b).state = .pulsing)) =
        l.filter (fun b => decide ((s.ej.get b).state = .pulsing)) :=
      List.filter_congr fun b hb => by rw [cut_other (ne_of_mem_of_not_mem hb hx)]
    rw [List.foldl_cons]
    by_cases hpulse : (s.ej.get x).state = .pulsing
    · have hcut := cut_cuts s x
      rw [if_pos hpulse, bump16_min _ h] at hcut
      rw [ih hrest (by omega), hothers, hcut, List.filter_cons_of_pos (by simpa using hpulse), List.length_cons]
      omega
    · have hcut := cut_cuts s x
      rw [if_neg hpulse] at hcut
      rw [ih hrest (by omega), hothers, hcut, List.filter_cons_of_neg (by simpa using hpulse)]

theorem cutAll_counts (s : State) : CutsCounted s s.cutAll := fun h => cuts_counted allBins (by decide) h

/-! ### Statements about what an effect makes of the state after the time -/

theorem CutsCounted.elapsed {s t : State} {dt : Nat} (h : CutsCounted (s.elapse dt) t) : CutsCounted s t := by
  simpa [CutsCounted] using h

theorem Cancelled.elapsed {s t : State} {dt : Nat} {b : BinNo} {r : PassReason} (h : Cancelled (s.elapse dt) t b r) :
    Cancelled s t b r := by
  intro it hit
  exact h it (by simpa using hit)

theorem finish_cuts (s : State) : s.finish.counters.cuts = s.counters.cuts := finish_counter s .cuts (by decide)

/-! ### The visit (R106, R108) -/

/-- Work on bins each by its own part: a configured bin gets its own step's work, and any other stands. -/
theorem configuredBins_foldl_own {α β : Type} (c : Settings) (env : State → β) (part : State → BinNo → α)
    (g : State → BinNo → State) (henv : ∀ s b, env (g s b) = env s)
    (hother : ∀ s b d, d ≠ b → part (g s b) d = part s d) (s : State) (b : BinNo) :
    ∃ u, env u = env s ∧ part u b = part s b ∧ part (c.configuredBins.foldl g s) b =
      if (c.bins.get b).configured = true then part (g u b) b else part s b := by
  rw [configuredBins_foldl]
  obtain ⟨u, huenv, hupart, hfold⟩ := allBins_foldl_own env part
    (fun u b => if (c.bins.get b).configured then g u b else u)
    (fun u d => by split; exacts [henv u d, rfl]) (fun u d x hx => by split; exacts [hother u d x hx, rfl]) s b
  refine ⟨u, huenv, hupart, hfold.trans ?_⟩
  split
  · rfl
  · exact hupart

theorem setBin_other {s : State} {b c : BinNo} (r : BinRecord) (h : c ≠ b) :
    (s.setBin b r).bins.recs.get c = s.bins.recs.get c := by
  rw [setBin_recs, Quad.get_set_other _ _ _ _ h]

theorem setBin_own (s : State) (b : BinNo) (r : BinRecord) : (s.setBin b r).bins.recs.get b = r := by
  rw [setBin_recs, Quad.get_set_same]

theorem showHeld_record (s : State) (b : BinNo) : (s.showHeld b).bins.recs.get b =
    if (s.bins.recs.get b).state = .absent then s.bins.recs.get b else { s.bins.recs.get b with state := .held } := by
  unfold State.showHeld
  split
  · rfl
  · exact setBin_own _ _ _

theorem showHeld_other {s : State} {b c : BinNo} (h : c ≠ b) : (s.showHeld b).bins.recs.get c = s.bins.recs.get c := by
  unfold State.showHeld
  split
  · rfl
  · exact setBin_other _ h

theorem enterVisit_snapshot (s : State) : s.enterVisit.bins.snapshot = some (s.bins.recs.map slotAtEntry) := by
  have hshow : ∀ (u : State) (b : BinNo), (u.showHeld b).bins.snapshot = u.bins.snapshot := by
    intro u b
    unfold State.showHeld
    split <;> simp
  exact foldl_keeps (fun u : State => u.bins.snapshot) _ hshow _ _

/-- R106: HELD shows at each configured bin that is not ABSENT. -/
theorem enterVisit_record (s : State) (b : BinNo) : s.enterVisit.bins.recs.get b =
    if (s.binCfg b).configured = true ∧ (s.bins.recs.get b).state ≠ .absent then { s.bins.recs.get b with state := .held }
    else s.bins.recs.get b := by
  obtain ⟨u, -, hrec, hfold⟩ := configuredBins_foldl_own s.cfg (fun _ => ()) (fun u b => u.bins.recs.get b) State.showHeld
    (fun _ _ => rfl) (fun _ _ _ h => showHeld_other h)
    (s.setBins { s.bins with snapshot := some (s.bins.recs.map slotAtEntry) }) b
  have hmine : s.enterVisit.bins.recs.get b = _ := hfold
  rw [hmine, showHeld_record, hrec, setBins_bins, State.binCfg]
  by_cases hconf : (s.cfg.bins.get b).configured = true
  · by_cases habsent : (s.bins.recs.get b).state = .absent <;> simp [hconf, habsent]
  · simp [hconf]

theorem leaveVisit_of_none {s : State} (h : s.bins.snapshot = none) : s.leaveVisit = s := by
  rw [State.leaveVisit, h]

theorem leaveVisit_snapshot (s : State) : s.leaveVisit.bins.snapshot = none := by
  cases h : s.bins.snapshot with
  | none => rw [leaveVisit_of_none h, h]
  | some q =>
    rw [State.leaveVisit, h]
    rfl

/-- R108: each configured bin takes its own record, found from its sensors, its fill and its mark. -/
theorem leaveVisit_record {s : State} {q : Quad SnapshotSlot} (h : s.bins.snapshot = some q) (b : BinNo) :
    s.leaveVisit.bins.recs.get b =
      if (s.binCfg b).configured = true then s.recordAtExit b (q.get b).mark else s.bins.recs.get b := by
  obtain ⟨u, henv, hrec, hfold⟩ := configuredBins_foldl_own s.cfg (fun u => (u.cfg, u.bins.present, u.bins.full))
    (fun u b => u.bins.recs.get b) (fun u b => u.setBin b (u.recordAtExit b (q.get b).mark))
    (fun u b => by simp) (fun u b d hd => setBin_other _ hd) s b
  simp only [Prod.mk.injEq] at henv
  obtain ⟨hcfg, hpresent, hfull⟩ := henv
  have hsame : u.recordAtExit b (q.get b).mark = s.recordAtExit b (q.get b).mark := by
    unfold State.recordAtExit State.fullActive State.binCfg
    rw [hcfg, hpresent, hfull, hrec]
  have hmine : s.leaveVisit.bins.recs.get b =
      (s.cfg.configuredBins.foldl (fun u b => u.setBin b (u.recordAtExit b (q.get b).mark)) s).bins.recs.get b := by
    rw [State.leaveVisit, h]
    rfl
  rw [hmine, hfold, setBin_own, hsame]
  rfl

/-- R108: a record at the exit, by the bin's presence and its mark. -/
theorem recordAtExit_spec (s : State) (b : BinNo) (mark : VisitMark) :
    ((s.bins.present.get b).settled = false ∨ mark = .replaced →
      s.recordAtExit b mark = { s.bins.recs.get b with state := .absent, fill := 0, pending := 0 }) ∧
    ((s.bins.present.get b).settled = true → mark = .fresh →
      s.recordAtExit b mark = { s.bins.recs.get b with state := if s.fullActive b then .full else .opened, fill := 0 }) ∧
    ((s.bins.present.get b).settled = true → mark = .kept → s.recordAtExit b mark = { s.bins.recs.get b with
      state := stateFound (s.binCfg b) (s.bins.recs.get b).fill (s.fullActive b) }) := by
  unfold State.recordAtExit
  refine ⟨fun h => ?_, fun hthere hmark => ?_, fun hthere hmark => ?_⟩
  · rcases h with haway | hmark
    · rw [if_pos haway]
    · subst hmark
      exact ite_self _
  · subst hmark
    rw [if_neg (by simp [hthere])]
  · subst hmark
    rw [if_neg (by simp [hthere])]

theorem recordAtExit_faultShown (s : State) (b : BinNo) (mark : VisitMark) :
    (s.recordAtExit b mark).faultShown = (s.bins.recs.get b).faultShown := by
  unfold State.recordAtExit
  dsimp only
  split
  · rfl
  · cases mark <;> rfl

theorem leaveVisit_faultShown (s : State) (b : BinNo) :
    (s.leaveVisit.bins.recs.get b).faultShown = (s.bins.recs.get b).faultShown := by
  cases h : s.bins.snapshot with
  | none => rw [leaveVisit_of_none h]
  | some q =>
    rw [leaveVisit_record h]
    split
    · exact recordAtExit_faultShown s b _
    · rfl

/-! ### The faults cleared (R96, R131) -/

/-- The ejector at the exit from SERVICE. -/
def Ejector.cleared (e : Ejector) : Ejector :=
  if e.state = .fault then { e with state := .ready, misses := 0 } else { e with misses := 0 }

theorem clearFault_ej (s : State) (b : BinNo) : (s.clearFault b).ej = s.ej.set b (s.ej.get b).cleared := by
  unfold State.clearFault Ejector.cleared
  dsimp only
  split
  · rw [(showFault_frame _ _ _).2.2.2.2.2.1]
    rfl
  · rfl

theorem clearFault_recs (s : State) (b : BinNo) : (s.clearFault b).bins.recs = s.bins.recs.set b
    (if (s.ej.get b).state = .fault then { s.bins.recs.get b with faultShown := false } else s.bins.recs.get b) := by
  unfold State.clearFault
  dsimp only
  split
  · rw [State.showFault, setBin_recs]
    rfl
  · exact (Quad.set_get_self _ b).symm

theorem clearFaults_own (s : State) (b : BinNo) :
    (allBins.foldl State.clearFault s).ej.get b = (s.ej.get b).cleared ∧
    (allBins.foldl State.clearFault s).bins.recs.get b =
      if (s.ej.get b).state = .fault then { s.bins.recs.get b with faultShown := false } else s.bins.recs.get b := by
  obtain ⟨u, -, hown, hfold⟩ := allBins_foldl_own (fun _ => ()) (fun u b => (u.ej.get b, u.bins.recs.get b))
    State.clearFault (fun _ _ => rfl)
    (fun u b c h => by rw [clearFault_ej, clearFault_recs, Quad.get_set_other _ _ _ _ h, Quad.get_set_other _ _ _ _ h]) s b
  rw [clearFault_ej, clearFault_recs, Quad.get_set_same, Quad.get_set_same] at hfold
  simp only [Prod.mk.injEq] at hown hfold
  obtain ⟨hej, hrec⟩ := hown
  obtain ⟨hfoldEj, hfoldRec⟩ := hfold
  rw [hej] at hfoldEj
  rw [hej, hrec] at hfoldRec
  exact ⟨hfoldEj, hfoldRec⟩

@[simp] theorem clearFaults_snapshot (s : State) :
    (allBins.foldl State.clearFault s).bins.snapshot = s.bins.snapshot := by
  have hclear : ∀ (u : State) (b : BinNo), (u.clearFault b).bins.snapshot = u.bins.snapshot := by
    intro u b
    unfold State.clearFault
    dsimp only
    split
    · rw [State.showFault, (setBin_rest _ _ _).1]
      rfl
    · rfl
  exact foldl_keeps (fun u : State => u.bins.snapshot) _ hclear _ _

theorem cleared_spec (e : Ejector) : e.cleared.state ≠ .fault ∧ e.cleared.misses = 0 ∧
    (e.state = .fault → e.cleared.state = .ready) ∧ (e.state ≠ .fault → e.cleared.state = e.state) := by
  unfold Ejector.cleared
  split
  · next h => exact ⟨by simp, rfl, fun _ => rfl, fun hne => absurd h hne⟩
  · next h => exact ⟨h, rfl, fun hfault => absurd hfault h, fun _ => rfl⟩

end Sys2Proof.Machine

/-! The service key (R182, R183). -/

namespace Sys2Proof.Machine

/-! ### The entry to SERVICE -/

theorem askBinstate_visit {u : State} :
    u.askBinstate.bins.snapshot = u.bins.snapshot ∧ u.askBinstate.bins.recs = u.bins.recs := ⟨rfl, rfl⟩

theorem enterService_ctl (u : State) : u.enterService.ctl = { u.ctl with mode := .service } := by
  simp [State.enterService, State.setMode]

theorem sameBut_enterService (u : State) :
    SameBut [.mode, .retention, .trk, .bins, .ej, .port, .ltu, .counters] u u.enterService := by
  simp [sameBut_iff]

theorem enterService_ejector (u : State) (b : BinNo) :
    (u.enterService.ej.get b).schedule = [] ∧ (u.enterService.ej.get b).state ≠ .pulsing := by
  have hej : u.enterService.ej = (u.cancelAll .service).cutAll.ej := by simp [State.enterService]
  obtain ⟨hstate, hsched, -⟩ := cutAll_ejector (u.cancelAll .service) b
  rw [hej]
  exact ⟨by rw [hsched, cancelAll_ejector], hstate⟩

theorem enterService_cancels (u : State) (b : BinNo) : Cancelled u u.enterService b .service := by
  have htrk : u.enterService.trk = (u.cancelAll .service).trk := by simp [State.enterService]
  intro it hit e he c fp hs
  rw [State.entry, htrk]
  exact cancelAll_cancels u b .service it hit e he c fp hs

theorem enterService_cuts (u : State) : CutsCounted u u.enterService := by
  have hcount : u.enterService.counters = (u.cancelAll .service).cutAll.counters := by simp [State.enterService]
  have hcut := cutAll_counts (u.cancelAll .service)
  rw [CutsCounted, hcount]
  simpa [CutsCounted, cancelAll_cuts] using hcut

theorem enterService_visit (u : State) :
    u.enterService.bins.snapshot = (u.cancelAll .service).cutAll.enterVisit.bins.snapshot ∧
    u.enterService.bins.recs = (u.cancelAll .service).cutAll.enterVisit.bins.recs := by
  rw [State.enterService, askBinstate_visit.1, askBinstate_visit.2, State.setMode, setCtl_bins]
  exact ⟨rfl, rfl⟩

theorem enterService_snapshot (u : State) : ∃ q, u.enterService.bins.snapshot = some q ∧
    ∀ b, q.get b = ⟨(u.bins.recs.get b).state, .kept⟩ := by
  obtain ⟨hsnap, -⟩ := enterService_visit u
  rw [enterVisit_snapshot] at hsnap
  refine ⟨_, hsnap, fun b => ?_⟩
  rw [Quad.get_map, slotAtEntry, (cutAll_frame _).2.2.2.2.2.2.1, cancelAll_record]

/-- R102, R106: the pending count falls for each cancelled entry, and HELD shows. -/
theorem enterService_record (u : State) (b : BinNo) :
    let r := u.enterService.bins.recs.get b
    r.fill = (u.bins.recs.get b).fill ∧
    r.pending = (u.bins.recs.get b).pending - (u.ej.get b).schedule.length ∧
    r.state = if (u.binCfg b).configured = true ∧ (u.bins.recs.get b).state ≠ .absent then .held
      else (u.bins.recs.get b).state := by
  intro r
  obtain ⟨-, hrecs⟩ := enterService_visit u
  have hr := enterVisit_record (u.cancelAll .service).cutAll b
  rw [← hrecs] at hr
  have hbins : (u.cancelAll .service).cutAll.bins = (u.cancelAll .service).bins := by simp
  have hcfg : ((u.cancelAll .service).cutAll.binCfg b) = u.binCfg b := by simp [State.binCfg]
  rw [hbins, hcfg, cancelAll_record] at hr
  simp only [r, hr]
  split <;> exact ⟨rfl, rfl, rfl⟩

/-! ### The exit from SERVICE -/

/-- The state in which the faults are cleared. -/
def State.visitLeft (u : State) : State := (u.setMode .run).leaveVisit

/-- The state when the faults are cleared. -/
def State.faultsCleared (u : State) : State := allBins.foldl State.clearFault u.visitLeft

theorem leaveService_eq (u : State) : u.leaveService = u.faultsCleared.askBinstate := by
  rw [State.leaveService, State.faultsCleared, State.visitLeft]

theorem leaveService_ctl (u : State) : u.leaveService.ctl = { u.ctl with mode := .run } := by
  simp [State.leaveService, State.setMode, foldl_keeps State.ctl State.clearFault (by simp)]

theorem sameBut_leaveService (u : State) :
    SameBut [.mode, .retention, .bins, .ej, .port, .ltu, .counters] u u.leaveService := by
  simp [sameBut_iff]

theorem leaveService_snapshot (u : State) : u.leaveService.bins.snapshot = none := by
  rw [leaveService_eq, askBinstate_visit.1, State.faultsCleared, clearFaults_snapshot]
  exact leaveVisit_snapshot _

theorem leaveService_ejector (u : State) (b : BinNo) : u.leaveService.ej.get b = (u.ej.get b).cleared := by
  obtain ⟨hej, -⟩ := clearFaults_own u.visitLeft b
  have hvisit : u.visitLeft.ej = u.ej := by simp [State.visitLeft]
  rw [hvisit] at hej
  rw [leaveService_eq, (askBinstate_frame _).2.2.2.2.2.2.1, State.faultsCleared, hej]

/-- R96, R131: the exit's record, the fault flag cleared where the ejector was in FAULT. -/
theorem leaveService_record (u : State) (b : BinNo) : u.leaveService.bins.recs.get b =
    if (u.ej.get b).state = .fault then { u.visitLeft.bins.recs.get b with faultShown := false }
    else u.visitLeft.bins.recs.get b := by
  obtain ⟨-, hrec⟩ := clearFaults_own u.visitLeft b
  have hvisit : u.visitLeft.ej = u.ej := by simp [State.visitLeft]
  rw [hvisit] at hrec
  rw [leaveService_eq, askBinstate_visit.2, State.faultsCleared, hrec]

/-- R108: but for the fault flag, the record is the visit's. -/
theorem leaveService_found (u : State) (b : BinNo) :
    (u.leaveService.bins.recs.get b).state = (u.visitLeft.bins.recs.get b).state ∧
    (u.leaveService.bins.recs.get b).fill = (u.visitLeft.bins.recs.get b).fill ∧
    (u.leaveService.bins.recs.get b).pending = (u.visitLeft.bins.recs.get b).pending := by
  rw [leaveService_record]
  split <;> exact ⟨rfl, rfl, rfl⟩

theorem leaveService_faultShown (u : State) (b : BinNo) :
    ((u.ej.get b).state = .fault → (u.leaveService.bins.recs.get b).faultShown = false) ∧
    ((u.ej.get b).state ≠ .fault → (u.leaveService.bins.recs.get b).faultShown = (u.bins.recs.get b).faultShown) := by
  rw [leaveService_record]
  refine ⟨fun h => by rw [if_pos h], fun h => ?_⟩
  rw [if_neg h]
  exact leaveVisit_faultShown (u.setMode .run) b

/-- R108: the state of a bin that stayed: FULL by its count or its sensor, else by its fill level. -/
theorem stateFound_eq (c : BinSettings) (fill : Nat) (active : Bool) : stateFound c fill active =
    if fill = c.capacity ∨ active = true then .full else if c.near ≤ 16 * fill / c.capacity then .near else .opened := rfl

theorem fullActive_iff (s : State) (b : BinNo) :
    s.fullActive b = true ↔ (s.binCfg b).fullFitted = true ∧ (s.bins.full.get b).settled = true := by
  simp [State.fullActive]

theorem visitLeft_record {u : State} {q : Quad SnapshotSlot} (hq : u.bins.snapshot = some q) (b : BinNo) :
    ((u.binCfg b).configured = false → u.visitLeft.bins.recs.get b = u.bins.recs.get b) ∧
    ((u.binCfg b).configured = true → u.visitLeft.bins.recs.get b = u.recordAtExit b (q.get b).mark) := by
  have hrec : u.visitLeft.bins.recs.get b =
      if (u.binCfg b).configured = true then u.recordAtExit b (q.get b).mark else u.bins.recs.get b :=
    leaveVisit_record (s := u.setMode .run) hq b
  rw [hrec]
  exact ⟨fun h => if_neg (by simp [h]), fun h => if_pos h⟩

/-- R108: what a configured bin becomes, by its presence, its mark and its full sensor. -/
theorem leaveService_bin {u : State} {q : Quad SnapshotSlot} (hq : u.bins.snapshot = some q) {b : BinNo}
    (hconf : (u.binCfg b).configured = true) :
    let r := u.leaveService.bins.recs.get b
    let active := (u.binCfg b).fullFitted = true ∧ (u.bins.full.get b).settled = true
    let there := (u.bins.present.get b).settled = true
    (¬ there ∨ (q.get b).mark = .replaced → r.state = .absent ∧ r.fill = 0 ∧ r.pending = 0) ∧
    (there → (q.get b).mark = .fresh → r.fill = 0 ∧ r.state = if active then .full else .opened) ∧
    (there → (q.get b).mark = .kept → r.fill = (u.bins.recs.get b).fill ∧
      r.state = if r.fill = (u.binCfg b).capacity ∨ active then .full
        else if (u.binCfg b).near ≤ 16 * r.fill / (u.binCfg b).capacity then .near else .opened) := by
  intro r active there
  obtain ⟨hstate, hfill, hpending⟩ := leaveService_found u b
  obtain ⟨-, hvisit⟩ := visitLeft_record hq b
  rw [hvisit hconf] at hstate hfill hpending
  obtain ⟨haway, hfresh, hkept⟩ := recordAtExit_spec u b (q.get b).mark
  refine ⟨fun h => ?_, fun hthere hmark => ?_, fun hthere hmark => ?_⟩
  · rw [haway (h.imp_left (by simp [there]))] at hstate hfill hpending
    exact ⟨hstate, hfill, hpending⟩
  · rw [hfresh hthere hmark] at hstate hfill
    refine ⟨hfill, hstate.trans ?_⟩
    simp only [fullActive_iff, active]
  · rw [hkept hthere hmark] at hstate hfill
    refine ⟨hfill, hstate.trans ?_⟩
    have hr : r.fill = (u.bins.recs.get b).fill := hfill
    rw [hr, stateFound_eq]
    simp only [fullActive_iff, active]

/-! ### The settled key -/

theorem keySettled_of {s : State} {dt : Nat} {turned : Bool} (hrun : s.running = true) (htimer : RunsOut s.ctl.keyTimer dt)
    (hold : s.ctl.keyTurned ≠ turned) (hpin : s.pins.keyTurned = turned) : (s.elapse dt).keySettled turned = true := by
  have hdue : Timer.due (s.elapse dt).ctl.keyTimer = true := htimer.due
  have hrun' : (s.elapse dt).running = true := hrun
  rw [State.keySettled, hrun', hdue]
  simp [hold, hpin]

theorem effect_keyPress {s : State} {dt : Nat} (hrun : s.running = true) (htimer : RunsOut s.ctl.keyTimer dt)
    (hold : s.ctl.keyTurned = false) (hpin : s.pins.keyTurned = true) :
    effect (.serviceKeyPress dt) (s.elapse dt) = ((s.elapse dt).takeKey true).press :=
  if_pos (keySettled_of hrun htimer (by simp [hold]) hpin)

theorem press_of_run {u : State} (h : u.ctl.mode = .run) : u.press = u.enterService := by rw [State.press, h]

theorem press_of_service {u : State} (h : u.ctl.mode = .service) : u.press = u.leaveService := by rw [State.press, h]

theorem press_of_safe {u : State} (h : u.ctl.mode = .safe) : u.press = u := by rw [State.press, h]

theorem running_of_mode {s : State} {m : Mode} (h : s.ctl.mode = m) (hm : m.running = true) : s.running = true := by
  rw [State.running, h, hm]

theorem sameBut_takeKey (s : State) (turned : Bool) : SameBut [.mode] s (s.takeKey turned) := sameBut_setCtl _ _

/-- R183: a press in RUN. -/
theorem keyPress_enters {s : State} {dt : Nat} (htimer : RunsOut s.ctl.keyTimer dt) (hold : s.ctl.keyTurned = false)
    (hpin : s.pins.keyTurned = true) (hmode : s.ctl.mode = .run) :
    ∃ t, exec (.serviceKeyPress dt) s = .next t ∧ t.ctl.mode = .service ∧ t.ctl.keyTurned = true ∧
      (∀ b, (t.ej.get b).schedule = [] ∧ (t.ej.get b).state ≠ .pulsing ∧ Cancelled s t b .service) ∧
      CutsCounted s t ∧
      (∃ q, t.bins.snapshot = some q ∧ ∀ b, q.get b = ⟨(s.bins.recs.get b).state, .kept⟩) ∧
      (∀ b, (t.bins.recs.get b).fill = (s.bins.recs.get b).fill ∧
        (t.bins.recs.get b).pending = (s.bins.recs.get b).pending - (s.ej.get b).schedule.length ∧
        (t.bins.recs.get b).state =
          if (s.binCfg b).configured = true ∧ (s.bins.recs.get b).state ≠ .absent then .held
          else (s.bins.recs.get b).state) ∧
      t.bins.periodTimer = some 500000000 ∧
      ControllerIs t { (s.elapse dt).ctl with mode := .service, keyTurned := true, keyTimer := none } ∧
      SameBut [.mode, .retention, .trk, .bins, .ej, .port, .ltu, .counters] (s.elapse dt) t := by
  generalize hu : (s.elapse dt).takeKey true = u
  have heff : effect (.serviceKeyPress dt) (s.elapse dt) = u.enterService := by
    rw [effect_keyPress (running_of_mode hmode rfl) htimer hold hpin, hu]
    exact press_of_run (by rw [← hu]; exact hmode)
  have hctl : u.enterService.ctl = { (s.elapse dt).ctl with mode := .service, keyTurned := true, keyTimer := none } := by
    rw [enterService_ctl, ← hu]
    rfl
  have hrun : u.enterService.running = true := running_of_mode (by rw [hctl]) rfl
  have hsame : SameBut [.mode, .retention, .trk, .bins, .ej, .port, .ltu, .counters] (s.elapse dt) u.enterService := by
    refine SameBut.trans (SameBut.mono (ch := [.mode]) ?_ (by decide)) (sameBut_enterService u)
    rw [← hu]
    exact sameBut_takeKey _ _
  refine ⟨_, exec_answers heff, ?_, ?_, fun b => ?_, ?_, ?_, fun b => ?_, finish_period rfl hrun, ?_,
    hsame.finish (by decide)⟩
  · simp [hctl]
  · simp [hctl]
  · obtain ⟨hsched, hstate⟩ := enterService_ejector u b
    have hcancel : Cancelled (s.elapse dt) u.enterService b .service := by
      rw [← hu]
      exact enterService_cancels ((s.elapse dt).takeKey true) b
    simp only [finish_frame]
    refine ⟨hsched, hstate, fun it hit e he c fp hs => ?_⟩
    rw [finish_entry]
    exact hcancel.elapsed it hit e he c fp hs
  · have hcuts : CutsCounted (s.elapse dt) u.enterService := by
      rw [← hu]
      exact enterService_cuts ((s.elapse dt).takeKey true)
    rw [CutsCounted, finish_cuts]
    exact hcuts.elapsed
  · have hsnap := enterService_snapshot u
    rw [← hu] at hsnap ⊢
    simpa using hsnap
  · have hrec := enterService_record u b
    rw [finish_recs]
    have hbins : u.bins.recs = s.bins.recs ∧ (u.ej.get b).schedule = (s.ej.get b).schedule ∧ u.binCfg b = s.binCfg b := by
      rw [← hu]
      exact ⟨rfl, by simp, rfl⟩
    obtain ⟨hrecs, hsched, hcfg⟩ := hbins
    rw [hrecs, hsched, hcfg] at hrec
    exact hrec
  · rw [ControllerIs, finish_noLamp, hctl]

/-- R108, R131, R183: a press in SERVICE. -/
theorem keyPress_leaves {s : State} {dt : Nat} (htimer : RunsOut s.ctl.keyTimer dt) (hold : s.ctl.keyTurned = false)
    (hpin : s.pins.keyTurned = true) (hmode : s.ctl.mode = .service) :
    ∃ u : State, exec (.serviceKeyPress dt) s = .next u.leaveService.finish ∧ u = (s.elapse dt).takeKey true ∧
      u.leaveService.finish.ctl.mode = .run ∧ u.leaveService.finish.ctl.keyTurned = true ∧
      u.leaveService.finish.bins.periodTimer = some 500000000 ∧
      ControllerIs u.leaveService.finish { (s.elapse dt).ctl with mode := .run, keyTurned := true, keyTimer := none } ∧
      SameBut [.mode, .retention, .bins, .ej, .port, .ltu, .counters] (s.elapse dt) u.leaveService.finish := by
  generalize hu : (s.elapse dt).takeKey true = u
  have heff : effect (.serviceKeyPress dt) (s.elapse dt) = u.leaveService := by
    rw [effect_keyPress (running_of_mode hmode rfl) htimer hold hpin, hu]
    exact press_of_service (by rw [← hu]; exact hmode)
  have hctl : u.leaveService.ctl = { (s.elapse dt).ctl with mode := .run, keyTurned := true, keyTimer := none } := by
    rw [leaveService_ctl, ← hu]
    rfl
  have hrun : u.leaveService.running = true := running_of_mode (by rw [hctl]) rfl
  have hsame : SameBut [.mode, .retention, .bins, .ej, .port, .ltu, .counters] (s.elapse dt) u.leaveService := by
    refine SameBut.trans (SameBut.mono (ch := [.mode]) ?_ (by decide)) (sameBut_leaveService u)
    rw [← hu]
    exact sameBut_takeKey _ _
  refine ⟨u, exec_answers heff, rfl, ?_, ?_, finish_period rfl hrun, ?_, hsame.finish (by decide)⟩
  · simp [hctl]
  · simp [hctl]
  · rw [ControllerIs, finish_noLamp, hctl]

/-- Settles O52. -/
theorem serviceKeyTogglesMode : Obligations.ServiceKeyTogglesMode := by
  refine ⟨fun s dt turned hrun hturn hquiet => ?change, fun s dt htimer hold hpin => ⟨fun hmode => ?enters,
    fun hmode => ?leaves, fun hmode hquiet => ?safe⟩, fun s dt hrun htimer hold hpin hquiet => ?release⟩
  case change =>
    generalize htime : (if turned = s.ctl.keyTurned then (none : Timer) else some 50000000) = time
    have heff : effect (.serviceKeyChange dt turned) (s.elapse dt) =
        ((s.elapse dt).setPins { s.pins with keyTurned := turned }).setCtl { (s.elapse dt).ctl with keyTimer := time } := by
      rw [← htime]
      exact (if_neg hturn).trans (if_pos hrun)
    refine ⟨_, exec_answers heff, by simp, by simp, by simp, by simp, by simp [ControllerIs], ?_⟩
    exact SameBut.finish_quiet (by simp [sameBut_iff]) (elapse_asked_of dt hquiet)
  case enters => exact keyPress_enters htimer hold hpin hmode
  case leaves =>
    obtain ⟨u, hexec, hu, hrun, hkey, hperiod, hctl, hsame⟩ := keyPress_leaves htimer hold hpin hmode
    refine ⟨_, hexec, hrun, hkey, ?_, fun q hq b => ?_, fun b => ?_, hperiod, hctl, hsame⟩
    · simp [leaveService_snapshot]
    · have hq' : u.bins.snapshot = some q := by rw [hu]; exact hq
      have hsensors : (u.bins.full.get b).settled = (s.bins.full.get b).settled ∧
          (u.bins.present.get b).settled = (s.bins.present.get b).settled := by
        subst hu
        simp
      obtain ⟨hfull, hpresent⟩ := hsensors
      have hcfg : u.binCfg b = s.binCfg b := by subst hu; rfl
      have hrecs : u.bins.recs = s.bins.recs := by subst hu; rfl
      rw [finish_recs]
      refine ⟨fun hconf => ?_, fun hconf => ?_⟩
      · obtain ⟨hvisit, -⟩ := visitLeft_record hq' b
        obtain ⟨hstate, -⟩ := leaveService_found u b
        rw [hstate, hvisit (by rw [hcfg, hconf]), hrecs]
      · have hbin := leaveService_bin hq' (b := b) (by rw [hcfg, hconf])
        rw [hfull, hpresent, hcfg, hrecs] at hbin
        exact hbin
    · have hej : u.ej.get b = (s.elapse dt).ej.get b := by subst hu; rfl
      have hstate : (u.ej.get b).state = (s.ej.get b).state := by rw [hej]; simp
      have hrecs : u.bins.recs = s.bins.recs := by subst hu; rfl
      obtain ⟨hcleared, hmisses, hready, hkept⟩ := cleared_spec (u.ej.get b)
      obtain ⟨hgone, hstays⟩ := leaveService_faultShown u b
      rw [hstate] at hready hkept hgone hstays
      rw [hrecs] at hstays
      simp only [finish_frame, finish_recs, leaveService_ejector]
      exact ⟨hcleared, hmisses, fun h => ⟨hready h, hgone h⟩, fun h => ⟨hkept h, hstays h⟩⟩
  case safe =>
    have heff : effect (.serviceKeyPress dt) (s.elapse dt) = (s.elapse dt).takeKey true :=
      (effect_keyPress (running_of_mode hmode rfl) htimer hold hpin).trans (press_of_safe hmode)
    refine ⟨_, exec_answers heff, by simp [State.takeKey, hmode], by simp [State.takeKey], by simp [State.takeKey, ControllerIs],
      (sameBut_takeKey _ _).finish_quiet (elapse_asked_of dt hquiet)⟩
  case release =>
    have heff : effect (.keySettledRelease dt) (s.elapse dt) = (s.elapse dt).takeKey false :=
      if_pos (keySettled_of hrun htimer (by simp [hold]) hpin)
    refine ⟨_, exec_answers heff, by simp [State.takeKey], by simp [State.takeKey], by simp [State.takeKey],
      by simp [State.takeKey, ControllerIs], (sameBut_takeKey _ _).finish_quiet (elapse_asked_of dt hquiet)⟩

end Sys2Proof.Machine

/-! The safety chain (R126, R133, R184, R185). -/

namespace Sys2Proof.Machine

/-! ### The entry to SAFE -/

/-- The pulses are cut and, from RUN, every schedule is cancelled. -/
def State.outputsStopped (u : State) : State := if u.ctl.mode = .run then u.cutAll.cancelAll .safety else u.cutAll

/-- The Mode Controller in SAFE, with the chain open. -/
def ModeController.opened (m : ModeController) : ModeController :=
  { m with mode := .safe, heldMode := some m.mode, chainClosed := false, chainTimer := none }

theorem outputsStopped_of_run {u : State} (h : u.ctl.mode = .run) : u.outputsStopped = u.cutAll.cancelAll .safety := if_pos h

theorem outputsStopped_of_service {u : State} (h : u.ctl.mode = .service) : u.outputsStopped = u.cutAll :=
  if_neg (by simp [h])

theorem enterSafe_eq (u : State) : u.enterSafe = (u.outputsStopped.setCtl u.ctl.opened).askBinstate := by
  have hctl : u.outputsStopped.ctl = u.ctl := by
    unfold State.outputsStopped
    split <;> simp
  have hmine : u.enterSafe = (u.outputsStopped.setCtl { u.outputsStopped.ctl with
      mode := .safe, heldMode := some u.ctl.mode, chainClosed := false, chainTimer := none }).askBinstate := by
    rw [State.enterSafe, State.outputsStopped]
  rw [hmine, hctl, ModeController.opened]

/-- What the entry makes of each part but the Mode Controller and the request is what the outputs' stop makes of it. -/
theorem enterSafe_parts (u : State) : u.enterSafe.ctl = u.ctl.opened ∧ u.enterSafe.ej = u.outputsStopped.ej ∧
    u.enterSafe.trk = u.outputsStopped.trk ∧ u.enterSafe.counters = u.outputsStopped.counters ∧
    u.enterSafe.bins.recs = u.outputsStopped.bins.recs ∧ u.enterSafe.bins.snapshot = u.outputsStopped.bins.snapshot ∧
    u.enterSafe.bins.asked = true := by
  rw [enterSafe_eq]
  exact ⟨rfl, rfl, rfl, rfl, rfl, rfl, rfl⟩

theorem sameBut_enterSafe (u : State) :
    SameBut [.mode, .retention, .trk, .bins, .ej, .port, .ltu, .counters] u u.enterSafe := by
  simp [sameBut_iff]

theorem outputsStopped_still (u : State) (b : BinNo) : (u.outputsStopped.ej.get b).state ≠ .pulsing := by
  obtain ⟨hstate, -⟩ := cutAll_ejector u b
  unfold State.outputsStopped
  split
  · rw [cancelAll_ejector]
    exact hstate
  · exact hstate

theorem outputsStopped_cuts (u : State) : CutsCounted u u.outputsStopped := by
  intro h
  rw [← cutAll_counts u h]
  unfold State.outputsStopped
  split
  · exact cancelAll_cuts _ _
  · rfl

theorem outputsStopped_snapshot (u : State) : u.outputsStopped.bins.snapshot = u.bins.snapshot := by
  unfold State.outputsStopped
  split <;> simp

/-- R132: from RUN, each schedule is emptied, its entries pass, and their reservations are given up. -/
theorem outputsStopped_cancels {u : State} (h : u.ctl.mode = .run) (b : BinNo) :
    (u.outputsStopped.ej.get b).schedule = [] ∧ Cancelled u u.outputsStopped b .safety ∧
    (u.outputsStopped.bins.recs.get b).pending = (u.bins.recs.get b).pending - (u.ej.get b).schedule.length := by
  obtain ⟨-, hsched, -⟩ := cutAll_ejector u b
  have hrec := cancelAll_record u.cutAll .safety b
  rw [hsched, (cutAll_frame u).2.2.2.2.2.2.1] at hrec
  rw [outputsStopped_of_run h]
  refine ⟨by rw [cancelAll_ejector], fun it hit e he c fp hs => ?_, by rw [hrec]⟩
  refine cancelAll_cancels u.cutAll b .safety it (by rwa [hsched]) e ?_ c fp hs
  rw [← he]
  simp [State.entry]

/-- R184: the chain opens in RUN or SERVICE. -/
theorem chainOpens_enters {s : State} (dt : Nat) (h : s.ctl.mode = .run ∨ s.ctl.mode = .service) :
    effect (.safetyChainOpening dt) (s.elapse dt) = ((s.elapse dt).setPins { s.pins with chainClosed := false }).enterSafe := by
  have hopens : effect (.safetyChainOpening dt) (s.elapse dt) = (s.elapse dt).chainOpens := rfl
  rw [hopens, State.chainOpens]
  rcases h with h | h
  · simp [h]
  · simp [h]

theorem outputs_stop {s : State} (dt : Nat) (h : s.ctl.mode = .run ∨ s.ctl.mode = .service) :
    ∃ t, exec (.safetyChainOpening dt) s = .next t ∧ t.ctl.mode = .safe ∧ t.ctl.heldMode = some s.ctl.mode ∧
      t.ctl.chainClosed = false ∧ t.pins.chainClosed = false ∧ (∀ b, (t.ej.get b).state ≠ .pulsing) ∧
      CutsCounted s t ∧
      (s.ctl.mode = .run → ∀ b, (t.ej.get b).schedule = [] ∧ Cancelled s t b .safety ∧
        (t.bins.recs.get b).pending = (s.bins.recs.get b).pending - (s.ej.get b).schedule.length) ∧
      (s.ctl.mode = .service → t.trk = (s.elapse dt).trk ∧ t.bins.recs = s.bins.recs) ∧ t.bins.snapshot = s.bins.snapshot ∧
      t.bins.periodTimer = some 500000000 ∧
      ControllerIs t { (s.elapse dt).ctl with mode := .safe, heldMode := some s.ctl.mode, chainClosed := false, chainTimer := none } ∧
      SameBut [.mode, .retention, .trk, .bins, .ej, .port, .ltu, .pins, .counters] (s.elapse dt) t := by
  generalize hu : (s.elapse dt).setPins { s.pins with chainClosed := false } = u
  have heff : effect (.safetyChainOpening dt) (s.elapse dt) = u.enterSafe := by
    rw [← hu]
    exact chainOpens_enters dt h
  have humode : u.ctl.mode = s.ctl.mode := by rw [← hu]; rfl
  have huctl : u.ctl = (s.elapse dt).ctl := by rw [← hu]; rfl
  have hutrk : u.trk = (s.elapse dt).trk := by rw [← hu]; rfl
  have hubins : u.bins = (s.elapse dt).bins := by rw [← hu]; rfl
  have huej : u.ej = (s.elapse dt).ej := by rw [← hu]; rfl
  have hucount : u.counters = s.counters := by rw [← hu]; rfl
  have hupins : u.pins.chainClosed = false := by rw [← hu]; rfl
  obtain ⟨hctl, hej, htrk, hcount, hrecs, hsnap, hasked⟩ := enterSafe_parts u
  have hrun : u.enterSafe.running = true := running_of_mode (m := .safe) (by rw [hctl]; rfl) rfl
  have hsame : SameBut [.mode, .retention, .trk, .bins, .ej, .port, .ltu, .pins, .counters] (s.elapse dt) u.enterSafe := by
    refine SameBut.trans (t := u) ?_ ((sameBut_enterSafe u).mono (by decide))
    rw [← hu]
    simp [sameBut_iff]
  refine ⟨_, exec_answers heff, ?_, ?_, ?_, ?_, fun b => ?_, ?_, fun hmode b => ?_, fun hmode => ?_, ?_,
    finish_period hasked hrun, ?_, hsame.finish (by decide)⟩
  · simp [hctl, ModeController.opened]
  · simp [hctl, ModeController.opened, humode]
  · simp [hctl, ModeController.opened]
  · simp [hupins]
  · simp only [finish_frame, hej]
    exact outputsStopped_still u b
  · have hcuts := outputsStopped_cuts u
    refine CutsCounted.elapsed (dt := dt) ?_
    rw [CutsCounted, finish_cuts, hcount]
    rw [CutsCounted, huej, hucount] at hcuts
    exact hcuts
  · obtain ⟨hsched, hcancel, hpending⟩ := outputsStopped_cancels (humode.trans hmode) b
    rw [finish_recs, hrecs, hpending, hubins, huej]
    simp only [finish_frame, hej]
    refine ⟨hsched, Cancelled.elapsed (dt := dt) fun it hit e he c fp hs => ?_, by simp⟩
    rw [finish_entry, State.entry, htrk]
    refine hcancel it (by rwa [huej]) e ?_ c fp hs
    rw [State.entry, hutrk]
    exact he
  · rw [finish_recs, hrecs, (finish_frame _).2.2.2.2.2.1, htrk, outputsStopped_of_service (humode.trans hmode)]
    simp only [cutAll_frame, hutrk, hubins, elapse_recs, and_self]
  · rw [(finish_bins _).2.2.2.1, hsnap, outputsStopped_snapshot, hubins]
    simp
  · rw [ControllerIs, finish_noLamp, hctl, huctl]
    rfl

/-- Settles O53. -/
theorem safetyChainMovesMode : Obligations.SafetyChainMovesMode := by
  refine ⟨fun s dt h => outputs_stop dt h, fun s dt hmode hquiet => ?opens, fun s dt hmode hopen hquiet => ?closes,
    fun s dt m hmode htimer hheld => ?leaves⟩
  case opens =>
    have heff : effect (.safetyChainOpening dt) (s.elapse dt) = ((s.elapse dt).setPins
        { s.pins with chainClosed := false }).setCtl { (s.elapse dt).ctl with chainTimer := none } := by
      have hopens : effect (.safetyChainOpening dt) (s.elapse dt) = (s.elapse dt).chainOpens := rfl
      rw [hopens, State.chainOpens]
      simp [hmode]
    refine ⟨_, exec_answers heff, by simp [hmode], by simp, by simp, by simp, by simp [ControllerIs], ?_⟩
    exact SameBut.finish_quiet (by simp [sameBut_iff]) (elapse_asked_of dt hquiet)
  case closes =>
    have heff : effect (.safetyChainClosing dt) (s.elapse dt) = ((s.elapse dt).setPins
        { s.pins with chainClosed := true }).setCtl { (s.elapse dt).ctl with chainTimer := some 200000000 } :=
      (if_neg (show ¬ s.pins.chainClosed = true by simp [hopen])).trans (if_pos hmode)
    refine ⟨_, exec_answers heff, by simp [hmode], by simp, by simp, by simp [ControllerIs], ?_⟩
    exact SameBut.finish_quiet (by simp [sameBut_iff]) (elapse_asked_of dt hquiet)
  case leaves =>
    generalize hm : { (s.elapse dt).ctl with mode := m, heldMode := none, chainClosed := true, chainTimer := none } = m'
    have heff : effect (.safeExit dt) (s.elapse dt) = ((s.elapse dt).setCtl m').askBinstate := by
      have hleaves : effect (.safeExit dt) (s.elapse dt) = (s.elapse dt).leaveSafe := if_pos ⟨hmode, htimer.due⟩
      have hback : (s.elapse dt).ctl.heldMode.getD .run = m := by
        rw [show (s.elapse dt).ctl.heldMode = some m from hheld, Option.getD_some]
      rw [hleaves, State.leaveSafe, hback, hm]
    have hsame : SameBut (.mode :: binstateParts) (s.elapse dt) ((s.elapse dt).setCtl m').askBinstate := by
      simp [sameBut_iff, binstateParts]
    refine ⟨_, exec_answers heff, by simp [← hm], by simp [← hm], by simp [← hm], ?_, by simp [askBinstate_visit],
      fun hback => finish_period rfl ?_, by simp [ControllerIs], hsame.finish (by decide)⟩
    · rw [(finish_bins _).2.2.2.1]
      rfl
    · refine running_of_mode (m := m) (by simp [← hm]) ?_
      rcases hback with rfl | rfl <;> rfl

end Sys2Proof.Machine
